-- ==== Sys2Proof/Word.lean ====
section
/-! DEFINITION. The words of the block: the fixed-width values that the spec adds, shifts or slices (00_scope.md R12,
10_state.md R30, R32, R39; 30_encoding.md R102). All values are unsigned; no operation of the block sign-extends. The counts whose
range follows the parameters (R30: `PH`, `GAPCNT`, `NOW`, `LAST`, `PRE`) are numbers: see Machine/State.lean. -/

namespace Sys2Proof

/-- A pixel: green in bits 23:16, red in bits 15:8, blue in bits 7:0 (R32). Every 24-bit value is a legal pixel. -/
abbrev Pixel := BitVec 24

/-- One 8-bit channel intensity, one byte of the byte source, or the `imm8` field of a command (R32, R102). -/
abbrev Byte := BitVec 8

/-- One command word as it stands on `CMD_DATA[31:0]` (R102; `CMD_BITS` = 32, R9). -/
abbrev CmdWord := BitVec 32

/-- A glyph's on/off mask: element `i` of the document is bit `i` (R39). -/
abbrev GlyphMask := BitVec 25

/-- The framebuffer `FB[0..24]`: 25 cells, each one whole pixel (R33, R70). It is the block's register file; it has no byte
addresses (R74). -/
abbrev Framebuffer := Vector Pixel 25

/-- The zero pixel, "off" (R17, R32). -/
abbrev zeroPixel : Pixel := 0#24

end Sys2Proof
end

