-- ==== Sys2Proof/Config.lean ====
section
/-! DEFINITION. The parameters of 00_scope.md R8 to R10: what the document fixes (R8), as numbers; what the spec decides, as a
configuration with its defaults and constraints (R9; 40_matrix_driver.md R153); what is left open (R10, 92_eei_decisions.md's
list) as opaque constants, so that a claim about the model holds whatever they are. With them the input ports of 30_encoding.md R100, and the free value the environment drives
once the listed inputs are used up. -/

namespace Sys2Proof

/-! ### Parameters the document fixes (R8) -/

/-- `NPIX`, the pixels of the framebuffer and of the data line (R8). -/
@[simp, reducible] def Config.nPix : Nat := 25

/-- `ROWS` and `COLS`, the sides of the physical layout (R8). -/
@[simp, reducible] def Config.side : Nat := 5

/-- `PIX_BITS`, the bits of one pixel: 3 channels of 8 bits (R8). -/
@[simp, reducible] def Config.pixBits : Nat := 24

/-- `FRAME_BITS`, the bits of one frame (R8). -/
@[simp, reducible] def Config.frameBits : Nat := 600

/-- `FRAME_BYTES`, the bytes of one frame (R8). -/
@[simp, reducible] def Config.frameBytes : Nat := 75

/-- `DEBOUNCE_US`, the guard interval in microseconds (R8). -/
@[simp, reducible] def Config.debounceUs : Nat := 200000

/-- `NDIGIT`, the number of glyphs (R8). -/
@[simp, reducible] def Config.nDigit : Nat := 10

/-- `T_BIT_NOM`, the nominal bit period, in nanoseconds (R8). -/
@[simp, reducible] def Config.tBitNom : Nat := 1250

/-- `T0H_NOM`, the nominal high time of a 0 bit, in nanoseconds (R8). -/
@[simp, reducible] def Config.t0hNom : Nat := 400

/-- `T1H_NOM`, the nominal high time of a 1 bit, in nanoseconds (R8). -/
@[simp, reducible] def Config.t1hNom : Nat := 800

/-- `T_TOL`, the tolerance on the pulse widths, in nanoseconds (R8). -/
@[simp, reducible] def Config.tTol : Nat := 150

/-- `T_GAP_MIN`, the minimum hold-low reset gap, in nanoseconds (R8). -/
@[simp, reducible] def Config.tGapMin : Nat := 80000

/-! ### Parameters the spec decides (R9; D1, D2, D3, D13) -/

/-- The parameters of R9 that a machine may have otherwise than at their defaults: `CLK_HZ`, `BIT_CYCLES`, `T0H_CYCLES`,
`T1H_CYCLES`, `GAP_CYCLES`, `US_CYCLES` and `TIME_BITS`. `SYNC_STAGES` is fixed at 2 (the flops of R193) and `CMD_BITS` at 32
(the type `CmdWord`; R116). They are a named argument of the model: the field `cfg` of State, which no operation and no cycle
writes (log entry 4). -/
structure Params where
  clkHz     : Nat
  bitCycles : Nat
  t0hCycles : Nat
  t1hCycles : Nat
  gapCycles : Nat
  usCycles  : Nat
  timeBits  : Nat
deriving DecidableEq, Repr

/-- The defaults of R9. -/
@[simps] def Config.defaults : Params :=
  { clkHz := 20000000
    bitCycles := 25
    t0hCycles := 8
    t1hCycles := 16
    gapCycles := 2000
    usCycles := 20
    timeBits := 64 }

/-- `FRAME_BITS * BIT_CYCLES`: the cycles a frame is on the line (R142, R107). -/
def Params.frameCycles (c : Params) : Nat := Config.frameBits * c.bitCycles

/-- `FRAME_BITS * BIT_CYCLES + GAP_CYCLES`: the cycles in which `CMD_READY` is 0 after a FLUSH or BYTE (R107, R148). -/
def Params.busyCycles (c : Params) : Nat := c.frameCycles + c.gapCycles

/-- `T_GAP_MIN` = 80 µs in clock cycles, rounded up: the shortest low period that ends a frame (R8, R149). -/
def Params.latchCycles (c : Params) : Nat := (c.clkHz * 80 + 999999) / 1000000

/-- The distance of two natural numbers: the `|a - b|` of R9 and R153. -/
def Config.dist (a b : Nat) : Nat := (a - b) + (b - a)

/-- `n` cycles last `ns` nanoseconds, give or take `tol`: `|n * T_CLK - ns| <= tol` with `T_CLK = 1 / CLK_HZ`, multiplied by
`CLK_HZ` so that it is exact for every clock (R9, R153). -/
def Params.Lasts (c : Params) (n ns tol : Nat) : Prop := Config.dist (n * 1000000000) (ns * c.clkHz) ≤ tol * c.clkHz

/-- `n` cycles last at least `ns` nanoseconds (R9, R153). -/
def Params.LastsAtLeast (c : Params) (n ns : Nat) : Prop := ns * c.clkHz ≤ n * 1000000000

/-- R9's constraint column. DESIGN CHOICE (log entry 17): `CLK_HZ` = 0, where `T_CLK` has no value, is not allowed. -/
def Params.Allowed (c : Params) : Prop :=
  0 < c.clkHz ∧ c.Lasts c.bitCycles Config.tBitNom 0 ∧ c.Lasts c.t0hCycles Config.t0hNom Config.tTol ∧
  c.Lasts c.t1hCycles Config.t1hNom Config.tTol ∧ c.t0hCycles < c.t1hCycles ∧ c.t1hCycles < c.bitCycles ∧
  c.LastsAtLeast c.gapCycles Config.tGapMin ∧ c.Lasts c.usCycles 1000 0 ∧
  Config.debounceUs < 2 ^ c.timeBits

/-- How many nanoseconds from 1250 ns a bit period may be and still be "near 1250 ns" (R153): the spec does not say, so it is a
FREE VALUE (log entry 17). -/
opaque Config.nearNs : Nat

/-- A choice of the cycle parameters conforms to the document (R153): the two high times and, as the spec's own choice, the two
low times within 150 ns of nominal, the gap at least 80 µs, and the bit period near 1250 ns.
DESIGN CHOICE (log entry 17): R153 does not speak of `CLK_HZ` = 0, where `T_CLK = 1/CLK_HZ` has no value; such a choice does not
conform. -/
def Params.Conforms (c : Params) : Prop :=
  0 < c.clkHz ∧
  c.Lasts c.t0hCycles Config.t0hNom Config.tTol ∧ c.Lasts c.t1hCycles Config.t1hNom Config.tTol ∧
  c.LastsAtLeast c.gapCycles Config.tGapMin ∧ c.Lasts c.bitCycles Config.tBitNom Config.nearNs ∧
  c.Lasts (c.bitCycles - c.t0hCycles) 850 Config.tTol ∧ c.Lasts (c.bitCycles - c.t1hCycles) 450 Config.tTol

/-- The bit cell, the gap and the microsecond each last at least one cycle. Every choice that R9 allows is of this kind
(`allowed_positive` in Laws/Ops.lean). -/
def Params.Positive (c : Params) : Prop := 0 < c.bitCycles ∧ 0 < c.gapCycles ∧ 0 < c.usCycles

/-! ### Parameters left open (R10). Opaque: nothing can evaluate one, so every claim holds for every value. -/

/-- `GLYPH_MASK(d)`, open (R10, R39, R170; D18). No font may be assumed. -/
opaque Config.glyphMask : Fin 10 → GlyphMask

/-- `GLYPH_COLOR(d)`, open (R10, R39, R170; D18). -/
opaque Config.glyphColor : Fin 10 → Pixel

/-- `ORIENTATION`, open (R10, R71; D22): where the logical row and column stand on the physical matrix. No rule uses it. -/
opaque Config.orientation : Fin 5 × Fin 5 → Fin 5 × Fin 5

/-- `ECHO_POS`, open (R10, R108; D16): the adapter's fixed position of the echoed character. -/
opaque Config.echoPos : Nat × Nat

/-- `STATUS_TEXT`, open (R10, R109; D16): the texts and positions the adapter draws for the levels of button A and B. -/
opaque Config.statusText : Bool → Bool → List (String × Nat × Nat)

/-- Which of two requests of one cycle the adapter serves first (R242 (c), R292). -/
inductive SameCycleOrder where
  | echoFirst
  | refreshFirst
deriving DecidableEq, Repr, Inhabited

/-- `SAME_CYCLE_ORDER`, open (R10, R242 (c); D19): by default nondeterministic, so a fresh free value for each cycle. -/
opaque Config.sameCycleOrder : Nat → SameCycleOrder

/-! ### The input ports -/

/-- What the input ports carry in one cycle (R31's `inputs_n`, R100): `RST`, `CMD_VALID`, `CMD_DATA[31:0]`, and the values
`BTN_N[0]` and `BTN_N[1]` are SAMPLED as at the edge that ends the cycle (`BTNS`, R194: the environment chooses them). -/
structure Inputs where
  rst      : Bool
  cmdValid : Bool
  cmdData  : CmdWord
  btnsA    : Bool
  btnsB    : Bool
deriving DecidableEq, Repr, Inhabited

/-- The quiet inputs: no reset, no command, both buttons released (R101, R192). -/
def Inputs.quiet : Inputs :=
  { rst := false, cmdValid := false, cmdData := 0, btnsA := true, btnsB := true }

/-- What the environment drives in the `n`-th cycle once the inputs listed in the state are used up: a FREE VALUE (R31,
R194: the host and the buttons do what they choose to do). -/
opaque Config.freeInputs : Nat → Inputs

end Sys2Proof
end

