-- ==== Sys2Proof/Syntax.lean ====
section
/-! DEFINITION. The operations of the block, one constructor for each row of spec/opcode_table.json (00_scope.md R3;
30_encoding.md R103, R110, R113), and the assembler's lines (R117, R118). -/

namespace Sys2Proof

/-- The two buttons; index 0 of the spec's arrays is A, index 1 is B (R30; D21). -/
inductive ButtonId where
  | a
  | b
deriving DecidableEq, Repr, Inhabited

/-- The operations. The first eight are commands, presented on the command port (R102, R103); the last two are event
operations, which have no command word and are selected by the edge flops (R110). -/
inductive Instr where
  /-- SET (R104, R131): all 32 values of `idx` can be encoded. -/
  | set (idx : BitVec 5) (pix : Pixel)
  /-- CLEAR (R105, R132). -/
  | clear
  /-- FLUSH (R105, R133). -/
  | flush
  /-- GLYPH (R106, R172): `d` is a number 0 to 255. -/
  | glyph (d : Byte)
  /-- BYTE (R106, R174): `c` is the byte received. -/
  | byte (c : Byte)
  /-- The reserved opcode 000 (R113). -/
  | reserved0
  /-- The reserved opcode 110 (R113). -/
  | reserved6
  /-- The reserved opcode 111 (R113). -/
  | reserved7
  /-- EDGE_A (R110, R199): a detected falling edge of button A. -/
  | edgeA
  /-- EDGE_B (R110, R200): a detected falling edge of button B. -/
  | edgeB
deriving DecidableEq, Repr, Inhabited

/-- One line of the assembler (R117) or of a script that also drives the buttons, and the pseudo-instructions (R118).
Operands are the written numbers: a line whose number does not fit its field is ill-formed (WellFormed.lean). -/
inductive Line where
  /-- `SET i, p` -/
  | set (i p : Nat)
  /-- `SET i, g, r, b`, channels in transmission order -/
  | setGrb (i g r b : Nat)
  | clear
  | flush
  | glyph (d : Nat)
  | byte (c : Nat)
  /-- `BLANK`: CLEAR then FLUSH -/
  | blank
  /-- `SHOW d`: GLYPH d then FLUSH -/
  | showDigit (d : Nat)
  /-- `SETRGB i, r, g, b`, channels in display order -/
  | setRgb (i r g b : Nat)
  /-- `PIXEL r, c, p` -/
  | pixel (r c p : Nat)
  /-- `EDGE A @t` or `EDGE B @t`: not a command, it has no word -/
  | edge (k : ButtonId) (t : Nat)
deriving DecidableEq, Repr

end Sys2Proof
end

