-- ==== Sys2Proof/WellFormed.lean ====
section
/-! DEFINITION. What is checked before an operation or an assembler line has words. The operand fields of `Instr` have their
widths in their types, so every value of a field is encodable (30_encoding.md R104, R106, R112); what remains is that an event
operation has no command word (R110), and that a number written on a line fits its field (R117, R118). -/

namespace Sys2Proof

/-- The operation is a command, which can stand on the command port; an event operation cannot (R3, R110). -/
def Instr.isCommand : Instr → Bool
  | .set _ _ | .clear | .flush | .glyph _ | .byte _ | .reserved0 | .reserved6 | .reserved7 => true
  | .edgeA | .edgeB => false

/-- The command starts a transmission (R141): a FLUSH or a BYTE. -/
def Instr.transmits : Instr → Bool
  | .flush | .byte _ => true
  | .set _ _ | .clear | .glyph _ | .reserved0 | .reserved6 | .reserved7 | .edgeA | .edgeB => false

/-- Every number of the line fits its field (R117: `i` is 0 to 31, `d` and `c` are 0 to 255, a pixel is 24 bits, a channel
8 bits; R118: the row and column of PIXEL are 0 to 4). The time of an event line is in no field of a word (R117): see
`Line.timeFits`. -/
def Line.wellFormed : Line → Bool
  | .set i p => i < 32 && p < 2 ^ 24
  | .setGrb i g r b => i < 32 && g < 256 && r < 256 && b < 256
  | .clear => true
  | .flush => true
  | .glyph d => d < 256
  | .byte c => c < 256
  | .blank => true
  | .showDigit d => d < 256
  | .setRgb i r g b => i < 32 && r < 256 && g < 256 && b < 256
  | .pixel r c p => r < 5 && c < 5 && p < 2 ^ 24
  | .edge _ _ => true

/-- The time of an event line is a value of `NOW` on a machine with parameters `c` (R117, R30). -/
def Line.timeFits (c : Params) : Line → Bool
  | .edge _ t => t < 2 ^ c.timeBits
  | .set _ _ | .setGrb _ _ _ _ | .clear | .flush | .glyph _ | .byte _ | .blank | .showDigit _ | .setRgb _ _ _ _
  | .pixel _ _ _ => true

end Sys2Proof
end

