-- ==== Sys2Proof/Decode.lean ====
section
/-! DEFINITION. The decoder of 30_encoding.md R119 (total on 32 bits) and of R110 (the edge flops), the encoder of R104 to
R106, the opcode rows of R103, and the assembler of R117 and R118. -/

namespace Sys2Proof

/-! ### The fields of a command word (R102) -/

/-- `op = CMD_DATA[31:29]`. -/
def opField (w : CmdWord) : BitVec 3 := w.extractLsb' 29 3

/-- `idx = CMD_DATA[28:24]`. -/
def idxField (w : CmdWord) : BitVec 5 := w.extractLsb' 24 5

/-- `pix = CMD_DATA[23:0]`. -/
def pixField (w : CmdWord) : Pixel := w.extractLsb' 0 24

/-- `imm8 = CMD_DATA[7:0]`. -/
def imm8Field (w : CmdWord) : Byte := w.extractLsb' 0 8

/-! ### Decoding -/

/-- The decoder of the command port (R103, R119): `op` alone selects the operation, and no 32-bit word is refused. The bits
R102 marks as ignored are not looked at (R114). -/
def decodeCommand (w : CmdWord) : Instr :=
  match (opField w).toNat with
  | 1 => .set (idxField w) (pixField w)
  | 2 => .clear
  | 3 => .flush
  | 4 => .glyph (imm8Field w)
  | 5 => .byte (imm8Field w)
  | 6 => .reserved6
  | 7 => .reserved7
  | _ => .reserved0

/-- How an operation is selected: by a word on the command port (R102), or by the pair of edge flops `S3[k]`, `S2[k]` of
button `k` in a cycle (R110). -/
inductive Selector where
  | word (w : CmdWord)
  | flops (k : ButtonId) (s3 s2 : Bool)
deriving DecidableEq, Repr

/-- Why a selector selects nothing. -/
inductive DecodeRefusal where
  /-- The pair `S3[k]`, `S2[k]` is not `10`, so button `k` has no detected edge (R110, R197). Safe: nothing is performed. -/
  | noFallingEdge (k : ButtonId)
  /-- No row of the opcode table has this width (R116: every command is 32 bits). Safe: nothing is performed. -/
  | noRowOfWidth (nbits : Nat)
deriving DecidableEq, Repr

/-- The event operation of button `k`, selected exactly by the pattern `10` over `S3[k]`, `S2[k]` (R110, R197). -/
def decodeEvent (k : ButtonId) (s3 s2 : Bool) : Except DecodeRefusal Instr :=
  if s3 && !s2 then
    match k with
    | .a => .ok .edgeA
    | .b => .ok .edgeB
  else .error (.noFallingEdge k)

/-- The decoder, total on every selector. -/
def decode : Selector → Except DecodeRefusal Instr
  | .word w => .ok (decodeCommand w)
  | .flops k s3 s2 => decodeEvent k s3 s2

/-! ### Encoding -/

/-- A command word from its opcode and its low 29 bits (R102). -/
def commandWord (op : BitVec 3) (low : BitVec 29) : CmdWord := op ++ low

/-- The canonical selector of each operation: ignored bits are zero (R104 to R106, R114); a reserved opcode's canonical word
has zeros below `op` (R103); an event is the pattern `10` (R110). -/
def encode : Instr → Selector
  | .set idx pix => .word (commandWord 1 (idx ++ pix))
  | .clear => .word (commandWord 2 0)
  | .flush => .word (commandWord 3 0)
  | .glyph d => .word (commandWord 4 (d.setWidth 29))
  | .byte c => .word (commandWord 5 (c.setWidth 29))
  | .reserved0 => .word (commandWord 0 0)
  | .reserved6 => .word (commandWord 6 0)
  | .reserved7 => .word (commandWord 7 0)
  | .edgeA => .flops .a true false
  | .edgeB => .flops .b true false

/-- The command word of an operation; an event operation has none (R110). -/
def encodeWord (i : Instr) : Option CmdWord :=
  match encode i with
  | .word w => some w
  | .flops _ _ _ => none

/-- The bits of `op` that R102 marks as ignored: 28:0 for CLEAR, FLUSH and the reserved opcodes, 28:8 for GLYPH and BYTE,
none for SET (R102, R113, R114). -/
def ignoredBits (i : Instr) : CmdWord :=
  match i with
  | .set _ _ => 0x00000000#32
  | .glyph _ | .byte _ => 0x1FFFFF00#32
  | .clear | .flush | .reserved0 | .reserved6 | .reserved7 => 0x1FFFFFFF#32
  | .edgeA | .edgeB => 0xFFFFFFFF#32

/-! ### The opcode rows of R103 -/

/-- One row of the opcode map: a word `w` selects it when `w AND mask = pattern` (R103). -/
structure OpcodeRow where
  pattern  : CmdWord
  mask     : CmdWord
  mnemonic : String
deriving DecidableEq, Repr

/-- The word selects the row (R103). -/
def OpcodeRow.selects (r : OpcodeRow) (w : CmdWord) : Bool := w &&& r.mask == r.pattern

/-- The opcode map, in the order of R103's table. -/
def opcodeRows : List OpcodeRow :=
  [⟨0x00000000#32, 0xE0000000#32, "RESERVED0"⟩,
   ⟨0x20000000#32, 0xE0000000#32, "SET"⟩,
   ⟨0x40000000#32, 0xE0000000#32, "CLEAR"⟩,
   ⟨0x60000000#32, 0xE0000000#32, "FLUSH"⟩,
   ⟨0x80000000#32, 0xE0000000#32, "GLYPH"⟩,
   ⟨0xA0000000#32, 0xE0000000#32, "BYTE"⟩,
   ⟨0xC0000000#32, 0xE0000000#32, "RESERVED6"⟩,
   ⟨0xE0000000#32, 0xE0000000#32, "RESERVED7"⟩]

/-- The operation's mnemonic, as the opcode table spells it. -/
def Instr.mnemonic : Instr → String
  | .set _ _ => "SET"
  | .clear => "CLEAR"
  | .flush => "FLUSH"
  | .glyph _ => "GLYPH"
  | .byte _ => "BYTE"
  | .reserved0 => "RESERVED0"
  | .reserved6 => "RESERVED6"
  | .reserved7 => "RESERVED7"
  | .edgeA => "EDGE_A"
  | .edgeB => "EDGE_B"

/-! ### The table's words -/

/-- The selector a table word stands for. A row of 32 bits is a command word. The rows of format EVENT have two bits, in one
whole byte: bits 1:0 are `S3[0]`, `S2[0]`. The table gives both event rows the same two bits, over the flops of a
different button, so a byte whose bits 1:0 are not `10` is read as button B's pair, in bits 3:2 (DESIGN CHOICE, log entry 3). -/
def tableSelector (nbits w : Nat) : Except DecodeRefusal Selector :=
  if nbits = 32 then .ok (.word (BitVec.ofNat 32 w))
  else if nbits = 8 then
    if w % 4 = 2 then .ok (.flops .a true false)
    else .ok (.flops .b (w.testBit 3) (w.testBit 2))
  else .error (.noRowOfWidth nbits)

/-- The instruction the decoder reads from a table word of `nbits` bits. -/
def decodeTableWord (nbits w : Nat) : Option Instr :=
  match tableSelector nbits w with
  | .error _ => none
  | .ok sel =>
    match decode sel with
    | .ok i => some i
    | .error _ => none

/-! ### The assembler (R117, R118) -/

/-- A pixel from its channels in transmission order (R32, R117). -/
def pixelOf (g r b : Nat) : Pixel := BitVec.ofNat 8 g ++ BitVec.ofNat 8 r ++ BitVec.ofNat 8 b

/-- The operations a well-formed line stands for, the pseudo-instructions expanded (R118); an ill-formed line is rejected. -/
def Line.assemble (l : Line) : Option (List Instr) :=
  if l.wellFormed then
    some (match l with
      | .set i p => [.set (BitVec.ofNat 5 i) (BitVec.ofNat 24 p)]
      | .setGrb i g r b => [.set (BitVec.ofNat 5 i) (pixelOf g r b)]
      | .clear => [.clear]
      | .flush => [.flush]
      | .glyph d => [.glyph (BitVec.ofNat 8 d)]
      | .byte c => [.byte (BitVec.ofNat 8 c)]
      | .blank => [.clear, .flush]
      | .showDigit d => [.glyph (BitVec.ofNat 8 d), .flush]
      | .setRgb i r g b => [.set (BitVec.ofNat 5 i) (pixelOf g r b)]
      | .pixel r c p => [.set (BitVec.ofNat 5 (5 * r + c)) (BitVec.ofNat 24 p)]
      | .edge .a _ => [.edgeA]
      | .edge .b _ => [.edgeB])
  else none

/-- The command words of a line (R117); a line of an event operation has none. -/
def Line.words (l : Line) : Option (List CmdWord) :=
  l.assemble.map fun is => is.filterMap encodeWord

end Sys2Proof
end

