-- ==== Sys2Proof/Machine/Operands.lean ====
section
/-! DEFINITION. The operand forms: the fields taken from a command as unsigned numbers (30_encoding.md R112), the digit of a
byte (41_glyph_frontend.md R173), the channels of a pixel (10_state.md R32), the place of a cell (20_memory.md R71), and the
entries of the glyph memory (R39, R171). -/

namespace Sys2Proof.Machine

open Sys2Proof

/-- `index = zext(idx)`, 0 to 31 (R112). -/
@[reducible] def indexOf (idx : BitVec 5) : Nat := idx.toNat

/-- `digit = zext(imm8)`, 0 to 255, for GLYPH (R112). -/
@[reducible] def digitOf (d : Byte) : Nat := d.toNat

/-- Green, the channel sent first: `p[23:16]` (R32). -/
def green (p : Pixel) : Byte := p.extractLsb' 16 8

/-- Red: `p[15:8]` (R32). -/
def red (p : Pixel) : Byte := p.extractLsb' 8 8

/-- Blue: `p[7:0]` (R32). -/
def blue (p : Pixel) : Byte := p.extractLsb' 0 8

/-- The row of cell `i` (R71). -/
def cellRow (i : Nat) : Nat := i / Config.side

/-- The column of cell `i` (R71). -/
def cellColumn (i : Nat) : Nat := i % Config.side

/-- The cell at row `r`, column `c` (R71). -/
def cellIndex (r c : Nat) : Nat := Config.side * r + c

/-- Where cell `i` stands on the physical matrix, under the open parameter `ORIENTATION` (R71; D22). -/
def physicalPlace (i : Fin 25) : Fin 5 × Fin 5 :=
  Config.orientation (⟨i.val / 5, by omega⟩, ⟨i.val % 5, by omega⟩)

/-- One entry of the glyph memory: a mask and a colour (R39). -/
structure Glyph where
  mask  : GlyphMask
  color : Pixel
deriving DecidableEq, Repr

/-- `GROM(d)`: the read-only glyph memory (R14, R39). Its contents are open parameters (D18). -/
def glyphRom (d : Fin 10) : Glyph := { mask := Config.glyphMask d, color := Config.glyphColor d }

/-- A byte is an ASCII decimal digit exactly when it is 0x30 to 0x39, and its digit is then the byte less 0x30 (R173). The
codes are the spec's, from general knowledge (93_implementation_defined.md G1). -/
def byteDigit (c : Byte) : Option (Fin 10) :=
  if h : 0x30 ≤ c.toNat ∧ c.toNat ≤ 0x39 then some ⟨c.toNat - 0x30, by omega⟩ else none

end Sys2Proof.Machine
end

