-- ==== Sys2Proof/Machine/State.lean ====
section
/-! DEFINITION. The state of the block: every register of 10_state.md R30 at its width, and the fields of the model's own: the
cycle parameters and the environment's inputs. Reset values: R50. -/

namespace Sys2Proof.Machine

open Sys2Proof

/-- The state of the transmit sequencer, `TXS` (R34). The binary code of the three values is internal. -/
inductive TxState where
  | idle
  | shift
  | gap
deriving DecidableEq, Repr, Inhabited

/-- The registers Unit D holds once per button `k`: `LEVEL[k]` (R40), `LAST[k]` (R41), `SEEN[k]` (R42), and the synchronizer
and edge flops `S1[k]`, `S2[k]`, `S3[k]` (R44). -/
@[ext]
structure ButtonRegs where
  level : Bool
  last  : Nat
  seen  : Bool
  s1    : Bool
  s2    : Bool
  s3    : Bool
deriving DecidableEq, Repr, Inhabited

/-- The complete state (R30). Unit M: `fb` is `FB[0..24]`, `txs` is `TXS`, `pix`, `bitidx`, `ph` are the transmit position,
`gapcnt` is `GAPCNT`, `rspv`, `rspc` the response registers, `echov`, `echoc` the echo registers. Unit D: `btnA` and `btnB`
are the registers of button 0 and button 1, `now` and `pre` the timer and its prescaler, `refv` is `REFV`.
`ph`, `gapcnt`, `now`, `pre` and the buttons' `last` are counts whose range follows the parameters (R30: 0 to `BIT_CYCLES`-1, 0 to
`GAP_CYCLES`-1, `TIME_BITS` bits, 0 to `US_CYCLES`-1), so they are held as numbers in that range; with the default parameters they
have R30's widths, 5, 11, 64 and 5 bits (DEDUCED, log entry 4).
The last three fields are the MODEL's own. `cfg` holds the machine's cycle parameters, fixed for a run (R49; log entry 4).
`inputs` (log entry 1) lists what the environment drives on the input ports, the
current cycle first, and `envTick` counts the cycles, so that the inputs beyond the list are a fresh free value each cycle. -/
@[ext]
structure State where
  fb      : Framebuffer
  txs     : TxState
  pix     : BitVec 5
  bitidx  : BitVec 5
  ph      : Nat
  gapcnt  : Nat
  rspv    : Bool
  rspc    : BitVec 3
  echov   : Bool
  echoc   : Byte
  btnA    : ButtonRegs
  btnB    : ButtonRegs
  now     : Nat
  pre     : Nat
  refv    : Bool
  cfg     : Params
  inputs  : List Inputs
  envTick : Nat
deriving DecidableEq, Repr

/-- The block has no fault: every state has a successor for every input, and an error is a response code, not a stop (R230,
R236, R280; 93_implementation_defined.md: nothing is stuck). Nothing raises a fault. -/
inductive Fault where
deriving DecidableEq, Repr

/-- The refusals. No operation of the opcode table is refused. -/
inductive Refusal where
  /-- An operation that has no meaning yet, rejected by exec's arm. No arm raises it. Safe: the model stops. -/
  | notModelled (mnemonic : String)
deriving DecidableEq, Repr

/-- The registers of a button after reset: level 0, never seen, flops 0 (R50). -/
def ButtonRegs.reset : ButtonRegs :=
  { level := false, last := 0, seen := false, s1 := false, s2 := false, s3 := false }

/-- The machine with the default parameters in cycle 0, right after reset (R50, R271, R9). No input is listed: the environment is
free (log entry 1). -/
def State.reset : State :=
  { fb := Vector.replicate 25 zeroPixel
    txs := .idle
    pix := 0
    bitidx := 23
    ph := 0
    gapcnt := 0
    rspv := false
    rspc := 0
    echov := false
    echoc := 0
    btnA := ButtonRegs.reset
    btnB := ButtonRegs.reset
    now := 0
    pre := 0
    refv := false
    cfg := Config.defaults
    inputs := []
    envTick := 0 }

end Sys2Proof.Machine
end

