-- ==== Sys2Proof/Machine/Flags.lean ====
section
/-! DEFINITION. The block has no arithmetic flags (10_state.md R46). What takes their place: the derived ready signal
(40_matrix_driver.md R146), the acceptance of a command (30_encoding.md R101), the detected edge (42_debounce.md R197) and the
guard (R198, R209). -/

namespace Sys2Proof.Machine

open Sys2Proof

/-- The registers of button `k` (R30: index 0 is A, index 1 is B). -/
def State.btn (s : State) (k : ButtonId) : ButtonRegs :=
  match k with
  | .a => s.btnA
  | .b => s.btnB

/-- `CMD_READY = (TXS = IDLE)` (R100, R146). -/
def State.ready (s : State) : Bool := s.txs == .idle

/-- What the environment drives `n` cycles from now: the listed inputs, and beyond them the free value of that cycle. -/
def State.inputAt (s : State) (n : Nat) : Inputs :=
  match s.inputs[n]? with
  | some x => x
  | none => Config.freeInputs (s.envTick + n)

/-- `inputs_n` of the current cycle (R31). -/
def State.input (s : State) : Inputs := s.inputAt 0

/-- The value `BTN_N[k]` is sampled as in this cycle, `BTNS[k]` (R193, R194). -/
def buttonSample (x : Inputs) (k : ButtonId) : Bool :=
  match k with
  | .a => x.btnsA
  | .b => x.btnsB

/-- A command is accepted in a cycle exactly when `CMD_VALID` and `CMD_READY` are both 1 (R101); under reset none is (R271). -/
def State.accepts (s : State) (x : Inputs) : Bool := !x.rst && x.cmdValid && s.ready

/-- `fall[k]`: the edge flops of the button read `S3 = 1`, `S2 = 0` (R197). -/
def ButtonRegs.fall (b : ButtonRegs) : Bool := b.s3 && !b.s2

/-- `elapsed(k, now) = (now - LAST[k]) mod 2^TIME_BITS`, the difference taken in the integers (R198, R209). -/
def ButtonRegs.elapsed (b : ButtonRegs) (c : Params) (now : Nat) : Nat :=
  (((now : Int) - b.last) % (2 ^ c.timeBits : Nat)).toNat

/-- `pass(k, now)`: never seen, or more than 200 000 µs since the last accepted edge; the comparison is strict and unsigned
(R198, R209). -/
def ButtonRegs.pass (b : ButtonRegs) (c : Params) (now : Nat) : Bool :=
  !b.seen || decide (Config.debounceUs < b.elapsed c now)

/-- `acc[k]`: an edge of the button is detected and accepted in a cycle with timer value `now` (R201). -/
def ButtonRegs.acc (b : ButtonRegs) (c : Params) (now : Nat) : Bool := b.fall && b.pass c now

end Sys2Proof.Machine
end

