-- ==== Sys2Proof/Machine/Ops.lean ====
section
/-! DEFINITION. The named operations over the framebuffer and the registers: the pseudocode primitives of 00_scope.md R14,
the response and the error entry of 60_exceptions.md R230 and R231, the frame of 40_matrix_driver.md R134, and the sequencing
of the parts of one cycle. There is no return from an error (R236, R244). -/

namespace Sys2Proof.Machine

open Sys2Proof

/-! ### The framebuffer (R14, R33, R70) -/

/-- The framebuffer of 25 zero pixels (R132). -/
def blankFramebuffer : Framebuffer := Vector.replicate 25 zeroPixel

/-- `FB[i]` as a number-indexed read. Every index an operation generates is 0 to 24 (R75); beyond the last cell, which no
reachable state asks for, the zero pixel (DESIGN CHOICE, log entry 5). -/
def readCell (fb : Framebuffer) (i : Nat) : Pixel :=
  match fb[i]? with
  | some p => p
  | none => zeroPixel

/-- `FB[i] <- v`: cell `i` is written and the others keep their values (R14, R131). -/
def writeCell (fb : Framebuffer) (i : Nat) (p : Pixel) : Framebuffer := fb.setIfInBounds i p

/-- The framebuffer a glyph leaves: the colour where the mask bit is 1, the zero pixel elsewhere (R172, `glyph_fb`). -/
@[irreducible] def Glyph.image (g : Glyph) : Framebuffer :=
  Vector.ofFn fun i : Fin 25 => if g.mask.getLsbD i.val then g.color else zeroPixel

/-- The cells `i` to `i+n-1` joined, cell `i` most significant. -/
def joinCells (fb : Framebuffer) (i : Nat) : (n : Nat) → BitVec (24 * n)
  | 0 => 0
  | n + 1 => (joinCells fb i n ++ readCell fb (i + n) : BitVec (24 * n + 24))

/-- `MemRead(i, n)`, defined only for `i + n <= 25` (R14). -/
def memRead (fb : Framebuffer) (i n : Nat) : Option (BitVec (24 * n)) :=
  if i + n ≤ 25 then some (joinCells fb i n) else none

/-- `MemWrite(i, n, v)`, defined only for `i + n <= 25` (R14). -/
def memWrite (fb : Framebuffer) (i n : Nat) (v : BitVec (24 * n)) : Option Framebuffer :=
  if i + n ≤ 25 then
    some (Vector.ofFn fun c : Fin 25 =>
      if i ≤ c.val ∧ c.val < i + n then v.extractLsb' (24 * (n - 1 - (c.val - i))) 24 else fb[c])
  else none

/-! ### The frame (R72, R134) -/

/-- `b(j) = FB[j div 24][23 - (j mod 24)]` (R72). -/
def frameBit (fb : Framebuffer) (j : Nat) : Bool := (readCell fb (j / 24)).getLsbD (23 - j % 24)

/-- `frame_bits(FB)`, 600 bits, `b(0)` first in time (R134). -/
def frameBits (fb : Framebuffer) : List Bool := (List.range 600).map (frameBit fb)

/-- `y(q)`: green, red or blue of cell `q div 3` (R134). -/
def frameByte (fb : Framebuffer) (q : Nat) : Byte :=
  let p := readCell fb (q / 3)
  if q % 3 = 0 then green p else if q % 3 = 1 then red p else blue p

/-- `frame_bytes(FB)`, 75 bytes, the document's "transmitted sequence" (R134). -/
def frameBytes (fb : Framebuffer) : List Byte := (List.range 75).map (frameByte fb)

/-! ### Responses and errors (R230, R231) -/

/-- The response codes (R231). `transportUnavailable` is reserved and never raised by the block (R234). -/
inductive RspCode where
  | ok
  | outOfRange
  | invalidDigit
  | transportUnavailable
  | illegalCommand
deriving DecidableEq, Repr

/-- The number of a response code (R231). -/
def RspCode.code : RspCode → BitVec 3
  | .ok => 0
  | .outOfRange => 1
  | .invalidDigit => 2
  | .transportUnavailable => 3
  | .illegalCommand => 4

/-- `respond c`: `RSPV <- 1 ; RSPC <- c` (R14, R140). -/
def State.respond (c : RspCode) (s : State) : State := { s with rspv := true, rspc := c.code }

/-- `raise E(info)`, the block's exception entry: the response carries the code of `E` and nothing else changes (R14, R230,
R236). `info` is recorded nowhere. -/
def State.raiseError (e : RspCode) (s : State) : State := s.respond e

/-! ### Register updates of Unit M -/

/-- All the cells a command writes change together (R77). -/
def State.writeFb (fb : Framebuffer) (s : State) : State := { s with fb := fb }

/-- `start_tx` (R14, R141). -/
def State.startTx (s : State) : State := { s with txs := .shift, pix := 0, bitidx := 23, ph := 0 }

/-- `emit ECHO(c)` (R14, R108). -/
def State.emitEcho (c : Byte) (s : State) : State := { s with echov := true, echoc := c }

/-- The defaults of a cycle: no response, no echo, no refresh unless a rule of the cycle sets them (R140, R201). -/
def State.clearPulses (s : State) : State :=
  { s with rspv := false, rspc := 0, echov := false, echoc := 0, refv := false }

/-! ### Register updates of Unit D -/

/-- `emit REFRESH` (R14, R109). -/
def State.emitRefresh (s : State) : State := { s with refv := true }

/-- Replaces the registers of button `k`. -/
def State.setBtn (k : ButtonId) (b : ButtonRegs) (s : State) : State :=
  { s with
    btnA := match k with | .a => b | .b => s.btnA
    btnB := match k with | .a => s.btnB | .b => b }

/-- The three updates of an accepted edge, together (R87, R201). -/
def ButtonRegs.accept (b : ButtonRegs) (now : Nat) : ButtonRegs :=
  { b with level := !b.level, last := now, seen := true }

/-- The synchronizer and edge flops take their next values (R193, R195). -/
def ButtonRegs.sample (b : ButtonRegs) (x : Bool) : ButtonRegs := { b with s1 := x, s2 := b.s1, s3 := b.s2 }

/-- Both buttons' flops take the samples of the cycle (R201). -/
def State.sampleButtons (x : Inputs) (s : State) : State :=
  { s with btnA := s.btnA.sample x.btnsA, btnB := s.btnB.sample x.btnsB }

/-- The prescaler one cycle on: it counts to `US_CYCLES - 1` and starts again (R191). -/
def tickPre (c : Params) (pre : Nat) : Nat := if pre < c.usCycles - 1 then pre + 1 else 0

/-- `NOW` one cycle on: it counts when the prescaler starts again, modulo `2^TIME_BITS` (R191, R209). -/
def tickNow (c : Params) (pre : Nat) (now : Nat) : Nat :=
  if pre < c.usCycles - 1 then now else (now + 1) % 2 ^ c.timeBits

/-- The microsecond timer counts one cycle (R191). -/
def State.tickTimer (s : State) : State :=
  { s with pre := tickPre s.cfg s.pre, now := tickNow s.cfg s.pre s.now }

/-! ### Reset, and the environment's inputs -/

/-- Every register takes its value of R50; the parameters are fixed, and the environment is not the block's: both are left alone
(R271, R274, R49). -/
def State.resetRegisters (s : State) : State :=
  { State.reset with cfg := s.cfg, inputs := s.inputs, envTick := s.envTick }

/-- The cycle's inputs are used up. -/
def State.nextInputs (s : State) : State := { s with inputs := s.inputs.tail, envTick := s.envTick + 1 }

/-! ### Sequencing the parts of a cycle -/

/-- Continues with the next state; a fault or a refusal stops. -/
def andThen (o : Host.Outcome State Fault Refusal) (f : State → Host.Outcome State Fault Refusal) :
    Host.Outcome State Fault Refusal :=
  match o with
  | .next s => f s
  | .fault r => .fault r
  | .refused r => .refused r

end Sys2Proof.Machine
end

