-- ==== Sys2Proof/Machine/Debounce.lean ====
section
/-! DEFINITION. The Debounce/State Controller's event operations EDGE_A and EDGE_B (42_debounce.md R198 to R205). Their operand
is `NOW` of the cycle (30_encoding.md R112). -/

namespace Sys2Proof.Machine

open Sys2Proof

/-- The handler of button `k` (R199, R200): an edge that passes the guard toggles the level, records the time and asks for a
refresh; any other edge is dropped (R204). -/
def State.debounce (k : ButtonId) (s : State) : State :=
  if (s.btn k).pass s.cfg s.now then (s.setBtn k ((s.btn k).accept s.now)).emitRefresh else s

/-- EDGE_A (R199). -/
def execEdgeA (s : State) : Host.Outcome State Fault Refusal := .next (s.debounce .a)

/-- EDGE_B (R200). -/
def execEdgeB (s : State) : Host.Outcome State Fault Refusal := .next (s.debounce .b)

end Sys2Proof.Machine
end

