-- ==== Sys2Proof/Machine/Glyph.lean ====
section
/-! DEFINITION. The glyph front end: `lookup`, GLYPH and BYTE (41_glyph_frontend.md R170 to R177). -/

namespace Sys2Proof.Machine

open Sys2Proof

/-- `lookup(d)`: the glyph of a digit 0 to 9, `InvalidDigit` for any other number (R171). -/
def lookupGlyph (d : Nat) : Except RspCode Glyph :=
  if h : d < 10 then .ok (glyphRom ⟨d, h⟩) else .error .invalidDigit

/-- GLYPH (R172): every cell is written from the glyph; a number of 10 or more is an error and writes nothing. -/
def execGlyph (d : Byte) (s : State) : Host.Outcome State Fault Refusal :=
  match lookupGlyph (digitOf d) with
  | .ok g => .next ((s.writeFb g.image).respond .ok)
  | .error e => .next (s.raiseError e)

/-- The framebuffer BYTE leaves: the digit's glyph, or all off for any other byte (R173, R174). -/
def byteImage (c : Byte) : Framebuffer :=
  match byteDigit c with
  | some d => (glyphRom d).image
  | none => blankFramebuffer

/-- BYTE (R174, R175): the echo, the new framebuffer and `start_tx` at one edge; no error is possible. -/
def execByte (c : Byte) (s : State) : Host.Outcome State Fault Refusal :=
  .next ((s.emitEcho c).writeFb (byteImage c)).startTx

end Sys2Proof.Machine
end

