-- ==== Sys2Proof/Machine/Matrix.lean ====
section
/-! DEFINITION. The Matrix Driver: SET, CLEAR and FLUSH, the reserved opcodes, and the transmit sequencer
(40_matrix_driver.md R130 to R146; 30_encoding.md R113). A meaning is what the command assigns at the edge that ends its
acceptance cycle; whether it is accepted is decided before (Machine/Cycle.lean). -/

namespace Sys2Proof.Machine

open Sys2Proof

/-- SET (R131): index 25 and above is `OutOfRange`, else one cell is written and the answer is `OK`. -/
def execSet (idx : BitVec 5) (pix : Pixel) (s : State) : Host.Outcome State Fault Refusal :=
  if 25 ≤ indexOf idx then .next (s.raiseError .outOfRange)
  else .next ((s.writeFb (writeCell s.fb (indexOf idx) pix)).respond .ok)

/-- CLEAR (R132): all 25 cells become the zero pixel. -/
def execClear (s : State) : Host.Outcome State Fault Refusal :=
  .next ((s.writeFb blankFramebuffer).respond .ok)

/-- FLUSH (R133, R140): `start_tx`; the response comes at the end of the reset gap (R145). -/
def execFlush (s : State) : Host.Outcome State Fault Refusal :=
  .next s.startTx

/-- The reserved opcode 000 (R113, R235). -/
def execReserved0 (s : State) : Host.Outcome State Fault Refusal :=
  .next (s.raiseError .illegalCommand)

/-- The reserved opcode 110 (R113, R235). -/
def execReserved6 (s : State) : Host.Outcome State Fault Refusal :=
  .next (s.raiseError .illegalCommand)

/-- The reserved opcode 111 (R113, R235). -/
def execReserved7 (s : State) : Host.Outcome State Fault Refusal :=
  .next (s.raiseError .illegalCommand)

/-- Stepping in `SHIFT` (R142). -/
def State.stepShift (s : State) : State :=
  if s.ph < s.cfg.bitCycles - 1 then { s with ph := s.ph + 1 }
  else if 0 < s.bitidx.toNat then { s with ph := 0, bitidx := s.bitidx - 1 }
  else if s.pix.toNat < 24 then { s with ph := 0, bitidx := 23, pix := s.pix + 1 }
  else { s with ph := 0, bitidx := 23, pix := 0, txs := .gap, gapcnt := 0 }

/-- Stepping in `GAP` (R144): the end of the gap answers the FLUSH or BYTE (R145). -/
def State.stepGap (s : State) : State :=
  if s.gapcnt < s.cfg.gapCycles - 1 then { s with gapcnt := s.gapcnt + 1 }
  else ({ s with gapcnt := 0, txs := .idle } : State).respond .ok

/-- The transmit sequencer's part of a cycle (R140). -/
def State.stepSequencer (s : State) : State :=
  match s.txs with
  | .idle => s
  | .shift => s.stepShift
  | .gap => s.stepGap

end Sys2Proof.Machine
end

