-- ==== Sys2Proof/Machine/Dispatch.lean ====
section
/-! DEFINITION. One arm per operation of the opcode table. -/

namespace Sys2Proof.Machine

open Sys2Proof

def exec (i : Instr) (s : State) : Host.Outcome State Fault Refusal :=
  match i with
  | .set idx pix => Sys2Proof.Machine.execSet idx pix s
  | .clear => Sys2Proof.Machine.execClear s
  | .flush => Sys2Proof.Machine.execFlush s
  | .glyph d => Sys2Proof.Machine.execGlyph d s
  | .byte c => Sys2Proof.Machine.execByte c s
  | .reserved0 => Sys2Proof.Machine.execReserved0 s
  | .reserved6 => Sys2Proof.Machine.execReserved6 s
  | .reserved7 => Sys2Proof.Machine.execReserved7 s
  | .edgeA => Sys2Proof.Machine.execEdgeA s
  | .edgeB => Sys2Proof.Machine.execEdgeB s

end Sys2Proof.Machine
end

