-- ==== Sys2Proof/Machine/Cycle.lean ====
section
/-! DEFINITION. One clock cycle (00_scope.md R13, 40_matrix_driver.md R140, 42_debounce.md R201, 70_reset_and_hazards.md R271).
The spec's assignments of a cycle are simultaneous. They are applied here one after the other in an order in which none reads
a register that an earlier one has written: the pulse defaults, Unit M, the edge of A, the edge of B, then flops and timer. -/

namespace Sys2Proof.Machine

open Sys2Proof

/-- Unit M's part of a cycle: an accepted command is decoded and performed, otherwise the sequencer advances; the two exclude
each other (R101, R140, R146). -/
def unitMPhase (x : Inputs) (s : State) : Host.Outcome State Fault Refusal :=
  if s.accepts x then exec (decodeCommand x.cmdData) s else .next s.stepSequencer

/-- The event operation of button `k`, performed exactly in a cycle in which its edge flops select it (R110, R197). -/
def eventPhase (k : ButtonId) (s : State) : Host.Outcome State Fault Refusal :=
  match decode (.flops k (s.btn k).s3 (s.btn k).s2) with
  | .ok i => exec i s
  | .error _ => .next s

/-- The flops, the timer and the environment move on to the next cycle (R191, R193, R195). -/
def clockPhase (x : Inputs) (s : State) : State := ((s.sampleButtons x).tickTimer).nextInputs

/-- One cycle without reset (R140, R201). -/
def runCycle (x : Inputs) (s : State) : Host.Outcome State Fault Refusal :=
  andThen (unitMPhase x s.clearPulses) fun s1 =>
  andThen (eventPhase .a s1) fun s2 =>
  andThen (eventPhase .b s2) fun s3 =>
  .next (clockPhase x s3)

/-- One cycle: reset overrides every other rule (R271). -/
def cycle (s : State) : Host.Outcome State Fault Refusal :=
  if s.input.rst then .next s.resetRegisters.nextInputs else runCycle s.input s

/-! ### Presenting an operation to the next cycle -/

/-- The listed inputs with the current cycle's replaced by `f` of it; where none is listed, `f` of the quiet inputs. -/
def drive (f : Inputs → Inputs) : List Inputs → List Inputs
  | [] => [f Inputs.quiet]
  | x :: rest => f x :: rest

/-- The sequencer at rest, as it must be for a command to be accepted (R34, R51 (a), R101). -/
def State.restSequencer (s : State) : State :=
  { s with txs := .idle, pix := 0, bitidx := 23, ph := 0, gapcnt := 0 }

/-- No button has a detected edge in the current cycle (R197). -/
def State.restEdges (s : State) : State :=
  { s with btnA := { s.btnA with s3 := false }, btnB := { s.btnB with s3 := false } }

/-- The host presents the command word in the current cycle, the block is ready for it (R101), and no edge falls in it. -/
def State.presentCommand (w : CmdWord) (s : State) : State :=
  { s.restSequencer.restEdges with
    inputs := drive (fun x => { x with rst := false, cmdValid := true, cmdData := w }) s.inputs }

/-- The edge flops of button `k` read `s3`, `s2` in the current cycle (R110), the other button has no edge, and no command is
presented. -/
def State.presentEdge (k : ButtonId) (s3 s2 : Bool) (s : State) : State :=
  { s.restEdges.setBtn k { s.btn k with s3 := s3, s2 := s2 } with
    inputs := drive (fun x => { x with rst := false, cmdValid := false }) s.inputs }

/-- The state whose next step runs the operation that the selector selects. -/
def State.present (sel : Selector) (s : State) : State :=
  match sel with
  | .word w => s.presentCommand w
  | .flops k s3 s2 => s.presentEdge k s3 s2

end Sys2Proof.Machine
end

