-- ==== Sys2Proof/Machine/Step.lean ====
section
/-! DEFINITION. The step: one clock cycle of the whole block (10_state.md R31). -/

namespace Sys2Proof.Machine

open Sys2Proof

/-- One clock cycle, with the inputs the state lists for it. -/
def step (s : State) : Host.Outcome State Fault Refusal := cycle s

/-- The state whose next step runs the opcode table's word `w` of `nbits` bits (log entry 2). A word of no row changes
nothing. -/
def State.withFetchWord (s : State) (nbits w : Nat) : State :=
  match tableSelector nbits w with
  | .ok sel => s.present sel
  | .error _ => s

end Sys2Proof.Machine
end

