-- ==== Sys2Proof/Machine/Ports.lean ====
section
/-! DEFINITION. The output ports, each a function of the registers only (30_encoding.md R100, R107 to R111;
40_matrix_driver.md R143; 42_debounce.md R202). -/

namespace Sys2Proof.Machine

open Sys2Proof

/-- What the output ports carry in one cycle (R100). -/
structure Outputs where
  cmdReady     : Bool
  rspValid     : Bool
  rspCode      : BitVec 3
  dout         : Bool
  ledOut       : BitVec 2
  refreshValid : Bool
  echoValid    : Bool
  echoChar     : Byte
deriving DecidableEq, Repr

/-- The high cycles of a bit cell: `T1H_CYCLES` for a 1, `T0H_CYCLES` for a 0 (R143). -/
def highCycles (c : Params) (b : Bool) : Nat := if b then c.t1hCycles else c.t0hCycles

/-- `FB[PIX][BITIDX]`, the bit on the line (R76, R143). -/
def State.lineBit (s : State) : Bool := (readCell s.fb s.pix.toNat).getLsbD s.bitidx.toNat

/-- `DOUT` (R111, R143): low unless a frame is on the line and its bit cell is in its high part. -/
def State.dout (s : State) : Bool := s.txs == .shift && decide (s.ph < highCycles s.cfg s.lineBit)

/-- `LED_OUT[1:0] = {LEVEL[1], LEVEL[0]}` (R100, R109, R202). -/
def State.ledOut (s : State) : BitVec 2 := BitVec.ofBool s.btnB.level ++ BitVec.ofBool s.btnA.level

/-- `outputs_n = out(state_n)` (R31, R100). -/
def State.outputs (s : State) : Outputs :=
  { cmdReady := s.ready
    rspValid := s.rspv
    rspCode := s.rspc
    dout := s.dout
    ledOut := s.ledOut
    refreshValid := s.refv
    echoValid := s.echov
    echoChar := s.echoc }

/-- The linear transmit position `POS`, 0 to `FRAME_BITS * BIT_CYCLES - 1` (R35). -/
def State.position (s : State) : Nat :=
  (s.pix.toNat * 24 + (23 - s.bitidx.toNat)) * s.cfg.bitCycles + s.ph

end Sys2Proof.Machine
end

