-- ==== Sys2Proof/Machine/Adapter.lean ====
section
/-! DEFINITION. The two requests the block sends to the Display Surface adapter, and the group of Display Surface calls that
30_encoding.md R108 and R109 say each stands for. The adapter and the display are outside the block (00_scope.md R7 (a)); the
position, the texts and the order within one cycle are its open parameters (R10, R242 (c)). -/

namespace Sys2Proof.Machine

open Sys2Proof

/-- The four operations of the Display Surface (R117, R248 (d)). -/
inductive SurfaceCall where
  | clear
  | drawText (text : String) (x y : Nat)
  | drawChar (c : Byte) (x y : Nat)
  | flush
deriving DecidableEq, Repr

/-- A request of the block: echo a byte (R108), or redraw the status for the levels of A and B (R109). -/
inductive Request where
  | echo (c : Byte)
  | refresh (levelA levelB : Bool)
deriving DecidableEq, Repr

/-- The requests that the ports carry in a cycle; where both pulses fall in it, in the adapter's order (R242 (c), R292). -/
def requests (order : SameCycleOrder) (o : Outputs) : List Request :=
  let echo := if o.echoValid then [Request.echo o.echoChar] else []
  let refresh := if o.refreshValid then [Request.refresh (o.ledOut.getLsbD 0) (o.ledOut.getLsbD 1)] else []
  match order with
  | .echoFirst => echo ++ refresh
  | .refreshFirst => refresh ++ echo

/-- The uninterrupted group of calls a request stands for (R108: clear, draw the character at the fixed position, flush;
R109: redraw the status text of both buttons, flush). -/
def Request.calls : Request → List SurfaceCall
  | .echo c => [.clear, .drawChar c Config.echoPos.1 Config.echoPos.2, .flush]
  | .refresh a b => (Config.statusText a b).map (fun t => SurfaceCall.drawText t.1 t.2.1 t.2.2) ++ [.flush]

/-- The Display Surface calls that a cycle asks for, each request's group whole (R292). -/
def State.surfaceCalls (s : State) : List SurfaceCall :=
  (requests (Config.sameCycleOrder s.envTick) s.outputs).flatMap Request.calls

end Sys2Proof.Machine
end

