-- ==== Sys2Proof/Machine/Registers.lean ====
section
/-! DEFINITION. The cycle read register by register: 00_scope.md R13's simultaneous assignments, each right-hand side a
function of the values of the current cycle (40_matrix_driver.md R140 to R144, 42_debounce.md R201). The step is defined by
operations (Machine/Cycle.lean); this is the same machine seen from each register, for the statements to compare. -/

namespace Sys2Proof.Machine

open Sys2Proof

/-- The response code of a command (R231); FLUSH and BYTE give theirs at the end of the gap, and an event has none. -/
def answerOf : Instr → RspCode
  | .set idx _ => if 25 ≤ idx.toNat then .outOfRange else .ok
  | .clear => .ok
  | .flush => .ok
  | .glyph d => if 10 ≤ d.toNat then .invalidDigit else .ok
  | .byte _ => .ok
  | .reserved0 => .illegalCommand
  | .reserved6 => .illegalCommand
  | .reserved7 => .illegalCommand
  | .edgeA => .ok
  | .edgeB => .ok

/-- What cell `j` holds after a command, given what it held before (R131, R132, R133, R172, R174, R113). -/
def cellAfter (i : Instr) (j : Fin 25) (old : Pixel) : Pixel :=
  match i with
  | .set idx pix => if idx.toNat = j.val then pix else old
  | .clear => 0
  | .flush => old
  | .glyph d =>
    if h : d.toNat < 10 then (if (Config.glyphMask ⟨d.toNat, h⟩).getLsbD j.val then Config.glyphColor ⟨d.toNat, h⟩ else 0)
    else old
  | .byte c =>
    if h : 48 ≤ c.toNat ∧ c.toNat < 58 then
      (if (Config.glyphMask ⟨c.toNat - 48, by omega⟩).getLsbD j.val then Config.glyphColor ⟨c.toNat - 48, by omega⟩ else 0)
    else 0
  | .reserved0 => old
  | .reserved6 => old
  | .reserved7 => old
  | .edgeA => old
  | .edgeB => old

/-- The command accepted in the cycle, if there is one (R101, R119). -/
def State.acceptedCommand (s : State) (x : Inputs) : Option Instr :=
  if s.accepts x then some (decodeCommand x.cmdData) else none

/-- A transmission is started in the cycle (R141). -/
def State.startsTx (s : State) (x : Inputs) : Bool :=
  match s.acceptedCommand x with
  | some i => i.transmits
  | none => false

/-- The bit cell is in its last cycle (R142). -/
def State.endOfCell (s : State) : Bool := decide (s.cfg.bitCycles - 1 ≤ s.ph)

/-- The pixel is in its last cycle (R142). -/
def State.endOfPixel (s : State) : Bool := s.endOfCell && decide (s.bitidx.toNat = 0)

/-- The frame is in its last cycle (R142). -/
def State.endOfFrame (s : State) : Bool := s.txs == .shift && s.endOfPixel && decide (24 ≤ s.pix.toNat)

/-- The reset gap is in its last cycle (R144). -/
def State.endOfGap (s : State) : Bool := s.txs == .gap && decide (s.cfg.gapCycles - 1 ≤ s.gapcnt)

/-- `FB` at the next edge. -/
def nextFb (x : Inputs) (s : State) : Framebuffer :=
  match s.acceptedCommand x with
  | some i => Vector.ofFn fun j : Fin 25 => cellAfter i j s.fb[j]
  | none => s.fb

/-- `TXS` at the next edge. -/
def nextTxs (x : Inputs) (s : State) : TxState :=
  if s.startsTx x then .shift else if s.endOfFrame then .gap else if s.endOfGap then .idle else s.txs

/-- `PIX` at the next edge. -/
def nextPix (x : Inputs) (s : State) : BitVec 5 :=
  if s.startsTx x || s.endOfFrame then 0
  else if s.txs == .shift && s.endOfPixel then s.pix + 1
  else s.pix

/-- `BITIDX` at the next edge. -/
def nextBitidx (x : Inputs) (s : State) : BitVec 5 :=
  if s.startsTx x || (s.txs == .shift && s.endOfPixel) then 23
  else if s.txs == .shift && s.endOfCell then s.bitidx - 1
  else s.bitidx

/-- `PH` at the next edge. -/
def nextPh (x : Inputs) (s : State) : Nat :=
  if s.startsTx x || (s.txs == .shift && s.endOfCell) then 0
  else if s.txs == .shift then s.ph + 1
  else s.ph

/-- `GAPCNT` at the next edge. -/
def nextGapcnt (s : State) : Nat :=
  if s.endOfFrame || s.endOfGap then 0 else if s.txs == .gap then s.gapcnt + 1 else s.gapcnt

/-- `RSPV` at the next edge: a command other than FLUSH and BYTE is answered at once, those at the end of the gap. -/
def nextRspv (x : Inputs) (s : State) : Bool :=
  match s.acceptedCommand x with
  | some i => !i.transmits
  | none => s.endOfGap

/-- `RSPC` at the next edge. -/
def nextRspc (x : Inputs) (s : State) : BitVec 3 :=
  match s.acceptedCommand x with
  | some i => (answerOf i).code
  | none => 0

/-- The byte an accepted BYTE echoes (R175). -/
def State.echoes (s : State) (x : Inputs) : Option Byte :=
  match s.acceptedCommand x with
  | some (.byte c) => some c
  | _ => none

/-- The registers of a button at the next edge, given the sample of its pin (R201). -/
def nextButton (b : ButtonRegs) (c : Params) (now : Nat) (btns : Bool) : ButtonRegs :=
  { level := b.level ^^ b.acc c now
    last := if b.acc c now then now else b.last
    seen := b.seen || b.acc c now
    s1 := btns
    s2 := b.s1
    s3 := b.s2 }

/-- The state at the next edge of a cycle without reset, register by register. -/
def nextRegisters (x : Inputs) (s : State) : State :=
  { fb := nextFb x s
    txs := nextTxs x s
    pix := nextPix x s
    bitidx := nextBitidx x s
    ph := nextPh x s
    gapcnt := nextGapcnt s
    rspv := nextRspv x s
    rspc := nextRspc x s
    echov := (s.echoes x).isSome
    echoc := (s.echoes x).getD 0
    btnA := nextButton s.btnA s.cfg s.now x.btnsA
    btnB := nextButton s.btnB s.cfg s.now x.btnsB
    now := if s.pre < s.cfg.usCycles - 1 then s.now else (s.now + 1) % 2 ^ s.cfg.timeBits
    pre := if s.pre < s.cfg.usCycles - 1 then s.pre + 1 else 0
    refv := s.btnA.acc s.cfg s.now || s.btnB.acc s.cfg s.now
    cfg := s.cfg
    inputs := s.inputs.tail
    envTick := s.envTick + 1 }

end Sys2Proof.Machine
end

