-- ==== Sys2Proof/Machine/Transaction.lean ====
section
/-! DEFINITION. The transaction level (00_scope.md R15): each operation as one atomic step on the framebuffer and the Button
State, with what it answers, echoes, transmits and refreshes (40_matrix_driver.md R131 to R134, 41_glyph_frontend.md R171 to
R174, 42_debounce.md R198 to R200, 30_encoding.md R113). 20_memory.md R90 says how the cycle level agrees with it. -/

namespace Sys2Proof.Machine

open Sys2Proof

/-- The Button State of one button at the transaction level (R40 to R42). -/
structure ButtonState where
  level : Bool
  last  : Nat
  seen  : Bool
deriving DecidableEq, Repr

/-- The state of the transaction level: the framebuffer and the two Button States. -/
structure TxnState where
  fb : Framebuffer
  a  : ButtonState
  b  : ButtonState
deriving DecidableEq, Repr

/-- One thing an operation gives to the outside: the echoed byte, a transmitted frame, the response of a command, the pair of
levels of a refresh. -/
inductive Effect where
  | echo (c : Byte)
  | frame (bits : List Bool)
  | respond (c : RspCode)
  | refresh (levelA levelB : Bool)
deriving DecidableEq, Repr

/-- The guard and the updates of an edge (R198, R199): the new Button State, or nothing where the edge is dropped. -/
def ButtonState.edge (b : ButtonState) (p : Params) (now : Nat) : Option ButtonState :=
  if b.seen = false ∨ 200000 < ((now : Int) - b.last) % (2 ^ p.timeBits : Nat) then
    some { level := !b.level, last := now, seen := true }
  else none

/-- Transmits the framebuffer and then, after the gap, answers OK (R133). -/
def transmit (fb : Framebuffer) : List Effect := [.frame (frameBits fb), .respond .ok]

/-- One operation at the transaction level: the new state, and its effects in the order in which they are given; `now` is the
operand of an event operation (R131 to R133, R172, R174, R113, R199, R200). BYTE emits its echo before the frame (R175). -/
def transact (p : Params) (i : Instr) (now : Nat) (t : TxnState) : TxnState × List Effect :=
  match i with
  | .set idx pix =>
    if h : idx.toNat < 25 then ({ t with fb := t.fb.set idx.toNat pix }, [.respond .ok])
    else (t, [.respond .outOfRange])
  | .clear => ({ t with fb := blankFramebuffer }, [.respond .ok])
  | .flush => (t, transmit t.fb)
  | .glyph d =>
    if h : d.toNat < 10 then ({ t with fb := (glyphRom ⟨d.toNat, h⟩).image }, [.respond .ok])
    else (t, [.respond .invalidDigit])
  | .byte c =>
    let fb :=
      if h : 0x30 ≤ c.toNat ∧ c.toNat ≤ 0x39 then (glyphRom ⟨c.toNat - 0x30, by omega⟩).image else blankFramebuffer
    ({ t with fb := fb }, .echo c :: transmit fb)
  | .reserved0 => (t, [.respond .illegalCommand])
  | .reserved6 => (t, [.respond .illegalCommand])
  | .reserved7 => (t, [.respond .illegalCommand])
  | .edgeA =>
    match t.a.edge p now with
    | some a => ({ t with a := a }, [.refresh a.level t.b.level])
    | none => (t, [])
  | .edgeB =>
    match t.b.edge p now with
    | some b => ({ t with b := b }, [.refresh t.a.level b.level])
    | none => (t, [])

/-- A list of operations, each with its time, one after the other. -/
def transactAll (p : Params) : List (Instr × Nat) → TxnState → TxnState
  | [], t => t
  | (i, now) :: rest, t => transactAll p rest (transact p i now t).1

/-- A button's registers seen at the transaction level. -/
def ButtonRegs.abs (b : ButtonRegs) : ButtonState := { level := b.level, last := b.last, seen := b.seen }

/-- The state seen at the transaction level. -/
def State.abs (s : State) : TxnState := { fb := s.fb, a := s.btnA.abs, b := s.btnB.abs }

end Sys2Proof.Machine
end

