-- ==== Sys2Proof/Machine/Waveform.lean ====
section
/-! DEFINITION. The data line in closed form, and the receiver that recovers a frame from it (40_matrix_driver.md R149). The
receiver reads `DOUT`; it is no part of the block. -/

namespace Sys2Proof.Machine

open Sys2Proof

/-- One bit cell on the line: high first, then low to its end (R143). -/
def bitCell (c : Params) (b : Bool) : List Bool :=
  List.replicate (highCycles c b) true ++ List.replicate (c.bitCycles - highCycles c b) false

/-- The bit cells of a sequence of bits, with no pause between them (R142). -/
def lineOfBits (c : Params) (bits : List Bool) : List Bool := bits.flatMap (bitCell c)

/-- What a high time of that many cycles stands for (R149). DESIGN CHOICE (log entry 14): any other high time is no bit of the
code. -/
def pulseBit (c : Params) (high : Nat) : Option Bool :=
  if high = c.t1hCycles then some true
  else if high = c.t0hCycles then some false
  else none

/-- The receiver of R149: how long the line has been high and low, the bits of the frame so far, and the frames ended. -/
structure Receiver where
  high   : Nat
  low    : Nat
  bits   : List (Option Bool)
  frames : List (List (Option Bool))
deriving DecidableEq, Repr

/-- The receiver on an idle line. -/
def Receiver.start : Receiver := { high := 0, low := 0, bits := [], frames := [] }

/-- One sample of `DOUT`. A falling line ends a pulse and so gives a bit; a low period of `T_GAP_MIN` ends the frame (R149).
DESIGN CHOICE (log entry 14): R149 says that 600 pulses make one frame and leaves open what a receiver makes of another number
of pulses before the low period, as after a reset in mid-frame (R273; 91_not_in_source.md N5); this receiver reports every
non-empty train of pulses that a low period ends, whatever its length. -/
def Receiver.sample (c : Params) (r : Receiver) (d : Bool) : Receiver :=
  if d then { r with high := r.high + 1, low := 0 }
  else
    let bits := if r.high = 0 then r.bits else r.bits ++ [pulseBit c r.high]
    if r.low + 1 = c.latchCycles ∧ bits ≠ [] then
      { high := 0, low := r.low + 1, bits := [], frames := r.frames ++ [bits] }
    else { high := 0, low := r.low + 1, bits := bits, frames := r.frames }

/-- The trains of pulses a receiver reports from the samples of `DOUT`, first in time first (R149). -/
def receive (c : Params) (samples : List Bool) : List (List (Option Bool)) :=
  (samples.foldl (Receiver.sample c) Receiver.start).frames

end Sys2Proof.Machine
end

