-- ==== Sys2Proof/Safety.lean ====
section
/-! DEFINITION. What statements about the machine are written with: runs of several cycles, the invariant of 10_state.md R51,
the host's obligations (70_reset_and_hazards.md R281), and the operations performed along a run (20_memory.md R90). -/

namespace Sys2Proof.Machine

open Sys2Proof

/-! ### Runs -/

/-- The state after `n` cycles, if no cycle stops. -/
def stateAfter : Nat → State → Option State
  | 0, s => some s
  | n + 1, s =>
    match step s with
    | .next t => stateAfter n t
    | .fault _ => none
    | .refused _ => none

/-- `RST` is 0 in each of the next `n` cycles. -/
def NoReset (n : Nat) (s : State) : Prop := ∀ m, m < n → (s.inputAt m).rst = false

/-- `DOUT` in the current cycle and the `n - 1` cycles after it, first in time first (R143, R149). -/
def doutAlong : Nat → State → List Bool
  | 0, _ => []
  | n + 1, s =>
    s.outputs.dout ::
      (match step s with
        | .next t => doutAlong n t
        | .fault _ => []
        | .refused _ => [])

/-! ### The invariant of reachable states (R51) -/

/-- R51 (a), (b), (c): the transmit position and the gap counter in each state of the sequencer. -/
def SequencerOk (s : State) : Prop :=
  match s.txs with
  | .idle => s.pix = 0 ∧ s.bitidx = 23 ∧ s.ph = 0 ∧ s.gapcnt = 0
  | .shift => s.pix.toNat ≤ 24 ∧ s.bitidx.toNat ≤ 23 ∧ s.ph ≤ s.cfg.bitCycles - 1 ∧ s.gapcnt = 0
  | .gap => s.pix = 0 ∧ s.bitidx = 23 ∧ s.ph = 0 ∧ s.gapcnt ≤ s.cfg.gapCycles - 1

/-- R51 (d), (i): the response registers. -/
def ResponseOk (s : State) : Prop :=
  (s.rspv = false → s.rspc = 0) ∧ s.rspc.toNat ≤ 4 ∧ s.rspc ≠ 3 ∧ (s.rspv = true → s.txs = .idle)

/-- R51 (e): the echo registers. -/
def EchoOk (s : State) : Prop := s.echov = false → s.echoc = 0

/-- R51 (f): the prescaler. -/
def TimerOk (s : State) : Prop := s.pre ≤ s.cfg.usCycles - 1

/-- R51 (g): a button that has had no accepted edge holds its reset values. -/
def ButtonOk (b : ButtonRegs) : Prop := b.seen = false → b.level = false ∧ b.last = 0

/-- R30: `NOW` and `LAST` hold values of `TIME_BITS` bits. -/
def TimeBitsOk (s : State) : Prop :=
  s.now < 2 ^ s.cfg.timeBits ∧ s.btnA.last < 2 ^ s.cfg.timeBits ∧ s.btnB.last < 2 ^ s.cfg.timeBits

/-- The invariant of R51, all clauses but (h), with R30's width of the timer's values. -/
def RegistersOk (s : State) : Prop :=
  TimeBitsOk s ∧ SequencerOk s ∧ ResponseOk s ∧ EchoOk s ∧ TimerOk s ∧ ButtonOk s.btnA ∧ ButtonOk s.btnB

/-- R51 (h): no recorded time lies after `NOW`. It holds while `NOW` has not wrapped. -/
def TimesOk (s : State) : Prop := s.btnA.last ≤ s.now ∧ s.btnB.last ≤ s.now

/-! ### The host's obligations (R254, R281) -/

/-- The block is not ready in the current cycle nor in the `m` cycles after it. -/
def NotReadyFor (m : Nat) (s : State) : Prop := ∀ j u, j ≤ m → stateAfter j s = some u → u.ready = false

/-- The host keeps the command it presents now, unchanged, in each of the next `n` cycles that come before the block has been
ready for it (R281). -/
def HostHolds (n : Nat) (s : State) : Prop :=
  s.input.cmdValid = true ∧ ∀ m, m < n → NotReadyFor m s →
    (s.inputAt (m + 1)).cmdValid = true ∧ (s.inputAt (m + 1)).cmdData = s.input.cmdData

/-! ### The operations performed along a run (R90) -/

/-- The operations of one cycle with the timer's value: the accepted command, then the detected edges (R90). -/
def operationsOf (s : State) : List (Instr × Nat) :=
  (match s.acceptedCommand s.input with
    | some i => [(i, s.now)]
    | none => []) ++
  (if s.btnA.fall then [(Instr.edgeA, s.now)] else []) ++
  (if s.btnB.fall then [(Instr.edgeB, s.now)] else [])

/-- The operations of the next `n` cycles, in order (R90). -/
def operationsAlong : Nat → State → List (Instr × Nat)
  | 0, _ => []
  | n + 1, s =>
    operationsOf s ++
      (match step s with
        | .next t => operationsAlong n t
        | .fault _ => []
        | .refused _ => [])

/-- How many edges of button `k` are accepted in the next `n` cycles (R208 (d)). -/
def acceptedEdges (k : ButtonId) : Nat → State → Nat
  | 0, _ => 0
  | n + 1, s =>
    (if (s.btn k).acc s.cfg s.now then 1 else 0) +
      (match step s with
        | .next t => acceptedEdges k n t
        | .fault _ => 0
        | .refused _ => 0)

/-! ### The parts of the state each unit owns (R30, unit column; R84) -/

/-- Two states agree on every register of Unit M. -/
def SameUnitM (s t : State) : Prop :=
  s.fb = t.fb ∧ s.txs = t.txs ∧ s.pix = t.pix ∧ s.bitidx = t.bitidx ∧ s.ph = t.ph ∧ s.gapcnt = t.gapcnt ∧
  s.rspv = t.rspv ∧ s.rspc = t.rspc ∧ s.echov = t.echov ∧ s.echoc = t.echoc

/-- Two states agree on every register of Unit D. -/
def SameUnitD (s t : State) : Prop :=
  s.btnA = t.btnA ∧ s.btnB = t.btnB ∧ s.now = t.now ∧ s.pre = t.pre ∧ s.refv = t.refv

end Sys2Proof.Machine
end

