-- ==== Sys2Proof/Certificates/Slice0/Obligations.lean ====
section
/-! DEFINITION. The statements for the provers. Each says in its docstring which rule of the spec it formalises, or which
sections it rests on. A run is written with `stateAfter`; the inputs of its cycles are those of `State.inputAt`, so a statement
holds for whatever the host and the buttons do. -/

open Sys2Proof Sys2Proof.Machine

/-! ### Reset -/

/-- R50: the state of cycle 0, register by register, and the outputs that follow from it. -/
def Obligations.ResetStateIsTheTable : Prop :=
  (∀ i : Fin 25, State.reset.fb[i] = 0#24) ∧
  State.reset.txs = .idle ∧ State.reset.pix = 0#5 ∧ State.reset.bitidx = 23#5 ∧ State.reset.ph = 0 ∧
  State.reset.gapcnt = 0 ∧ State.reset.rspv = false ∧ State.reset.rspc = 0#3 ∧
  State.reset.echov = false ∧ State.reset.echoc = 0#8 ∧
  (∀ k : ButtonId, (State.reset.btn k).level = false ∧ (State.reset.btn k).last = 0 ∧
    (State.reset.btn k).seen = false ∧ (State.reset.btn k).s1 = false ∧ (State.reset.btn k).s2 = false ∧
    (State.reset.btn k).s3 = false) ∧
  State.reset.now = 0 ∧ State.reset.pre = 0 ∧ State.reset.refv = false ∧
  State.reset.outputs =
    { cmdReady := true, rspValid := false, rspCode := 0#3, dout := false, ledOut := 0#2, refreshValid := false,
      echoValid := false, echoChar := 0#8 }

/-- R271: at an edge at which `RST` is 1 every register takes its reset value, whatever the state and the other inputs; what
remains is what the block does not hold: its parameters and its environment. -/
def Obligations.ResetInputOverridesEveryRule : Prop :=
  ∀ s : State, s.input.rst = true →
    step s = .next { State.reset with cfg := s.cfg, inputs := s.inputs.tail, envTick := s.envTick + 1 }

/-! ### The commands and the event operations -/

/-- R131: SET writes one cell and answers OK for an index below 25, and fails with `OutOfRange` and writes nothing for every
other index. Every register not named is unchanged. -/
def Obligations.SetWritesOneCellOrFails : Prop :=
  ∀ (s : State) (idx : BitVec 5) (pix : Pixel),
    (idx.toNat < 25 → ∃ t : State, exec (.set idx pix) s = .next t ∧
      t = { s with fb := t.fb, rspv := true, rspc := 0#3 } ∧
      ∀ j : Fin 25, t.fb[j] = if j.val = idx.toNat then pix else s.fb[j]) ∧
    (25 ≤ idx.toNat → exec (.set idx pix) s = .next { s with rspv := true, rspc := 1#3 })

/-- R132: CLEAR makes every cell the zero pixel and answers OK; it cannot fail. -/
def Obligations.ClearZeroesEveryCell : Prop :=
  ∀ s : State, ∃ t : State, exec .clear s = .next t ∧
    t = { s with fb := t.fb, rspv := true, rspc := 0#3 } ∧ ∀ j : Fin 25, t.fb[j] = 0#24

/-- R133 and R141 in the acceptance cycle: FLUSH starts the transmission at position (0, 23, 0), writes no cell and gives no
response now. What follows in later cycles is stated by the statements about runs. -/
def Obligations.FlushStartsTransmission : Prop :=
  ∀ s : State, exec .flush s = .next { s with txs := .shift, pix := 0#5, bitidx := 23#5, ph := 0 }

/-- R172: GLYPH writes every cell from the glyph of a digit 0 to 9, and fails with `InvalidDigit` and writes nothing for every
other number. For every glyph memory. -/
def Obligations.GlyphWritesEveryCellOrFails : Prop :=
  ∀ (s : State) (d : Byte),
    (∀ h : d.toNat < 10, ∃ t : State, exec (.glyph d) s = .next t ∧
      t = { s with fb := t.fb, rspv := true, rspc := 0#3 } ∧
      ∀ j : Fin 25, t.fb[j] =
        if (Config.glyphMask ⟨d.toNat, h⟩).getLsbD j.val then Config.glyphColor ⟨d.toNat, h⟩ else 0#24) ∧
    (10 ≤ d.toNat → exec (.glyph d) s = .next { s with rspv := true, rspc := 2#3 })

/-- R174 and R175 in the acceptance cycle: BYTE echoes the byte, writes the digit's glyph or blanks every cell, and starts the
transmission, for every byte. -/
def Obligations.ByteEchoesWritesAndTransmits : Prop :=
  ∀ (s : State) (c : Byte), ∃ t : State, exec (.byte c) s = .next t ∧
    t = { s with fb := t.fb, echov := true, echoc := c, txs := .shift, pix := 0#5, bitidx := 23#5, ph := 0 } ∧
    (∀ h : 0x30 ≤ c.toNat ∧ c.toNat ≤ 0x39, ∀ j : Fin 25, t.fb[j] =
      if (Config.glyphMask ⟨c.toNat - 0x30, by omega⟩).getLsbD j.val then Config.glyphColor ⟨c.toNat - 0x30, by omega⟩
      else 0#24) ∧
    (c.toNat < 0x30 ∨ 0x39 < c.toNat → ∀ j : Fin 25, t.fb[j] = 0#24)

/-- R113: each reserved opcode is answered `IllegalCommand` and changes nothing but the response registers. -/
def Obligations.ReservedAnswersIllegalCommand : Prop :=
  ∀ s : State,
    exec .reserved0 s = .next { s with rspv := true, rspc := 4#3 } ∧
    exec .reserved6 s = .next { s with rspv := true, rspc := 4#3 } ∧
    exec .reserved7 s = .next { s with rspv := true, rspc := 4#3 }

/-- R199: EDGE_A toggles the level, records the time and asks for a refresh when the guard passes, and does nothing otherwise. -/
def Obligations.EdgeATogglesOrIsDropped : Prop :=
  ∀ s : State,
    (s.btnA.seen = false ∨ 200000 < ((s.now : Int) - s.btnA.last) % (2 ^ s.cfg.timeBits : Nat) →
      exec .edgeA s = .next
        { s with btnA := { s.btnA with level := !s.btnA.level, last := s.now, seen := true }, refv := true }) ∧
    (s.btnA.seen = true → ((s.now : Int) - s.btnA.last) % (2 ^ s.cfg.timeBits : Nat) ≤ 200000 → exec .edgeA s = .next s)

/-- R200: EDGE_B is EDGE_A with the registers of button B. -/
def Obligations.EdgeBTogglesOrIsDropped : Prop :=
  ∀ s : State,
    (s.btnB.seen = false ∨ 200000 < ((s.now : Int) - s.btnB.last) % (2 ^ s.cfg.timeBits : Nat) →
      exec .edgeB s = .next
        { s with btnB := { s.btnB with level := !s.btnB.level, last := s.now, seen := true }, refv := true }) ∧
    (s.btnB.seen = true → ((s.now : Int) - s.btnB.last) % (2 ^ s.cfg.timeBits : Nat) ≤ 200000 → exec .edgeB s = .next s)

/-- R230: a command that fails changes no register but the response registers, which carry the code of its error. -/
def Obligations.FailedCommandsHaveNoPartialEffect : Prop :=
  ∀ (s : State) (i : Instr), answerOf i ≠ .ok →
    exec i s = .next { s with rspv := true, rspc := (answerOf i).code } ∧
    ((∃ idx pix, i = .set idx pix ∧ 25 ≤ idx.toNat ∧ (answerOf i).code = 1#3) ∨
     (∃ d, i = .glyph d ∧ 10 ≤ d.toNat ∧ (answerOf i).code = 2#3) ∨
     ((i = .reserved0 ∨ i = .reserved6 ∨ i = .reserved7) ∧ (answerOf i).code = 4#3))

/-- R78: SET, CLEAR and GLYPH issued twice in a row leave the same state as once. -/
def Obligations.SetClearGlyphAreIdempotent : Prop :=
  ∀ (s : State) (idx : BitVec 5) (pix : Pixel) (d : Byte),
    andThen (exec (.set idx pix) s) (exec (.set idx pix)) = exec (.set idx pix) s ∧
    andThen (exec .clear s) (exec .clear) = exec .clear s ∧
    andThen (exec (.glyph d) s) (exec (.glyph d)) = exec (.glyph d) s

/-- R84: a command and an event operation commute, and so do the two event operations. -/
def Obligations.CommandsAndEdgesCommute : Prop :=
  ∀ (s : State) (i : Instr), i.isCommand = true →
    andThen (exec i s) (exec .edgeA) = andThen (exec .edgeA s) (exec i) ∧
    andThen (exec i s) (exec .edgeB) = andThen (exec .edgeB s) (exec i) ∧
    andThen (exec .edgeA s) (exec .edgeB) = andThen (exec .edgeB s) (exec .edgeA)

/-- R118, R174: a BYTE does to the framebuffer and the sequencer what GLYPH of its digit, or CLEAR, and then FLUSH do. -/
def Obligations.ByteActsAsShowOrBlank : Prop :=
  ∀ (s : State) (c : Byte), ∃ t u : State, exec (.byte c) s = .next t ∧
    andThen (exec (if 0x30 ≤ c.toNat ∧ c.toNat ≤ 0x39 then .glyph (c - 0x30#8) else .clear) s) (exec .flush) = .next u ∧
    t.fb = u.fb ∧ t.txs = u.txs ∧ t.pix = u.pix ∧ t.bitidx = u.bitidx ∧ t.ph = u.ph ∧
    u.rspc = 0#3 ∧ u.echov = s.echov ∧ t.echov = true ∧ t.echoc = c

/-! ### Decoding and encoding -/

/-- Words written out from the encodings of R104 to R106 and R110, and what they decode to. -/
def Obligations.WrittenOutWordsDecode : Prop :=
  decode (.word 0b00100111000100000010000000110000#32) = .ok (.set 7#5 0x102030#24) ∧
  decode (.word 0b01000000000000000000000000000000#32) = .ok .clear ∧
  decode (.word 0b01100000000000000000000000000000#32) = .ok .flush ∧
  decode (.word 0b10000000000000000000000000000111#32) = .ok (.glyph 7#8) ∧
  decode (.word 0b10100000000000000000000000110111#32) = .ok (.byte 0x37#8) ∧
  decode (.word 0b00000000000000000000000000000000#32) = .ok .reserved0 ∧
  decode (.flops .a true false) = .ok .edgeA ∧
  decode (.flops .b true false) = .ok .edgeB

/-- R119: encoding then decoding is the identity, for every operation with every operand; and every command has a word. -/
def Obligations.DecodeOfEncodeIsTheInstruction : Prop :=
  ∀ i : Instr, decode (encode i) = .ok i ∧ (i.isCommand = true ↔ ∃ w, encode i = .word w)

/-- R119: decoding then encoding gives the canonical word, which differs from the word only in bits that R102 marks as
ignored; a word of which only ignored bits are changed decodes to the same operation. -/
def Obligations.EncodeOfDecodeIsTheCanonicalWord : Prop :=
  ∀ w v : CmdWord,
    encode (decodeCommand w) = .word (w &&& ~~~(ignoredBits (decodeCommand w))) ∧
    ((w ^^^ v) &&& ~~~(ignoredBits (decodeCommand w)) = 0#32 → decodeCommand v = decodeCommand w)

/-- R103: every 32-bit word selects exactly one row of the opcode map, and it decodes to that row's operation. -/
def Obligations.ExactlyOneOpcodeRowMatches : Prop :=
  ∀ w : CmdWord, ∃ r ∈ opcodeRows, r.selects w = true ∧ r.mnemonic = (decodeCommand w).mnemonic ∧
    ∀ r' ∈ opcodeRows, r'.selects w = true → r' = r

/-- R110: an event operation is selected exactly by `S3[k] = 1`, `S2[k] = 0`, and by nothing else. -/
def Obligations.EventsAreSelectedByTheEdgeFlops : Prop :=
  ∀ (s3 s2 : Bool),
    (decode (.flops .a s3 s2) = .ok .edgeA ↔ s3 = true ∧ s2 = false) ∧
    (decode (.flops .b s3 s2) = .ok .edgeB ↔ s3 = true ∧ s2 = false) ∧
    ∀ (k : ButtonId) (i : Instr), decode (.flops k s3 s2) = .ok i → i = (match k with | .a => .edgeA | .b => .edgeB)

/-- R117, R118: the word of each line of the assembler, with numbers that fit their fields, as the formula of R117; the expansion
of each pseudo-instruction; and a line with a number that does not fit is rejected. -/
def Obligations.PseudoInstructionsExpand : Prop :=
  (∀ i p, i < 32 → p < 2 ^ 24 → (Line.set i p).words = some [BitVec.ofNat 32 (0x20000000 + i * 2 ^ 24 + p)]) ∧
  (∀ i g r b, i < 32 → g < 256 → r < 256 → b < 256 →
    (Line.setGrb i g r b).words = some [BitVec.ofNat 32 (0x20000000 + i * 2 ^ 24 + g * 2 ^ 16 + r * 2 ^ 8 + b)]) ∧
  Line.clear.words = some [0x40000000#32] ∧ Line.flush.words = some [0x60000000#32] ∧
  (∀ d, d < 256 → (Line.glyph d).words = some [BitVec.ofNat 32 (0x80000000 + d)]) ∧
  (∀ c, c < 256 → (Line.byte c).words = some [BitVec.ofNat 32 (0xA0000000 + c)]) ∧
  Line.blank.words = some [0x40000000#32, 0x60000000#32] ∧
  (∀ d, d < 256 → (Line.showDigit d).words = some [BitVec.ofNat 32 (0x80000000 + d), 0x60000000#32]) ∧
  (∀ i r g b, (Line.setRgb i r g b).words = (Line.setGrb i g r b).words) ∧
  (∀ r c p, r < 5 → c < 5 → p < 2 ^ 24 → (Line.pixel r c p).words = (Line.set (5 * r + c) p).words) ∧
  (∀ i p, 32 ≤ i ∨ 2 ^ 24 ≤ p → (Line.set i p).words = none) ∧
  (∀ i g r b, 32 ≤ i ∨ 256 ≤ g ∨ 256 ≤ r ∨ 256 ≤ b → (Line.setGrb i g r b).words = none) ∧
  (∀ d, 256 ≤ d → (Line.glyph d).words = none ∧ (Line.byte d).words = none ∧ (Line.showDigit d).words = none) ∧
  (∀ r c p, 5 ≤ r ∨ 5 ≤ c ∨ 2 ^ 24 ≤ p → (Line.pixel r c p).words = none)

/-! ### One cycle -/

/-- R140, R201: the step runs the decoded operations. The accepted command is `exec` of the word's decoding, each button's
event is `exec` of its operation exactly when its edge is detected, and around them the pulse defaults, the sequencer and the
clock phase. -/
def Obligations.StepRunsTheDecodedOperations : Prop :=
  (∀ s : State, s.input.rst = false →
    step s =
      andThen
        (if s.input.cmdValid = true ∧ s.txs = .idle then exec (decodeCommand s.input.cmdData) s.clearPulses
          else .next s.clearPulses.stepSequencer)
        fun s1 => andThen (eventPhase .a s1) fun s2 => andThen (eventPhase .b s2) fun s3 =>
          .next (clockPhase s.input s3)) ∧
  (∀ (k : ButtonId) (s : State),
    ((s.btn k).s3 = true → (s.btn k).s2 = false →
      eventPhase k s = exec (match k with | .a => .edgeA | .b => .edgeB) s) ∧
    ((s.btn k).s3 = false ∨ (s.btn k).s2 = true → eventPhase k s = .next s))

/-- The state made by `withFetchWord` runs the table's word in its very next step, and nothing else: a command word of 32 bits,
or the event pattern `10` of one byte, which the model reads as button A's (DESIGN CHOICE, log entries 2 and 3). -/
def Obligations.PresentedWordRunsNext : Prop :=
  ∀ s : State,
    (∀ w : CmdWord, step (s.withFetchWord 32 w.toNat) =
      andThen (exec (decodeCommand w) (s.withFetchWord 32 w.toNat).clearPulses) fun t =>
        .next (clockPhase (s.withFetchWord 32 w.toNat).input t)) ∧
    step (s.withFetchWord 8 2) =
      andThen (exec .edgeA (s.withFetchWord 8 2).clearPulses.stepSequencer) fun t =>
        .next (clockPhase (s.withFetchWord 8 2).input t)

/-- R280, R49: every combination of inputs gives a defined next state, in every state; the parameters stay as they are. -/
def Obligations.EveryCycleHasANextState : Prop :=
  ∀ s : State, ∃ t : State, step s = .next t ∧ t.cfg = s.cfg ∧ t.inputs = s.inputs.tail ∧ t.envTick = s.envTick + 1

/-- R13, R140, R201: the step, built from operations, is the simultaneous assignment of every register from the values of the
current cycle. -/
def Obligations.StepIsTheSimultaneousAssignment : Prop :=
  ∀ s : State, s.input.rst = false → step s = .next (nextRegisters s.input s)

/-- R101: while the block is not ready, what stands on the command port has no influence; and while `CMD_VALID` is 0,
`CMD_DATA` has none. -/
def Obligations.UnacceptedCommandsHaveNoInfluence : Prop :=
  ∀ (s : State) (x : Inputs) (rest : List Inputs) (v : Bool) (w : CmdWord), s.inputs = x :: rest →
    (s.txs ≠ .idle → step { s with inputs := { x with cmdValid := v, cmdData := w } :: rest } = step s) ∧
    (x.cmdValid = false → step { s with inputs := { x with cmdData := w } :: rest } = step s)

/-- R107: a response pulse is given in the next cycle exactly for an accepted command other than FLUSH and BYTE, with that
command's code, and at the end of the gap, with code 0; without a pulse the code is 0. -/
def Obligations.ResponsePulsesHaveTheirCause : Prop :=
  ∀ s t : State, s.input.rst = false → step s = .next t →
    (∀ i, s.acceptedCommand s.input = some i →
      (i.transmits = false → t.rspv = true ∧ t.rspc = (answerOf i).code) ∧
      (i.transmits = true → t.rspv = false ∧ t.rspc = 0#3)) ∧
    (s.acceptedCommand s.input = none →
      (s.txs = .gap ∧ s.cfg.gapCycles - 1 ≤ s.gapcnt → t.rspv = true ∧ t.rspc = 0#3) ∧
      (s.txs ≠ .gap ∨ s.gapcnt < s.cfg.gapCycles - 1 → t.rspv = false ∧ t.rspc = 0#3))

/-- R38: `ECHOV` is 1 in the cycle after each accepted BYTE and `ECHOC` is then the byte; in every other cycle both are 0. -/
def Obligations.EchoFollowsAcceptedBytesOnly : Prop :=
  ∀ s t : State, s.input.rst = false → step s = .next t →
    (∀ c, s.acceptedCommand s.input = some (.byte c) → t.echov = true ∧ t.echoc = c) ∧
    ((∀ c, s.acceptedCommand s.input ≠ some (.byte c)) → t.echov = false ∧ t.echoc = 0#8)

/-- R201, R203, R205: in one cycle the registers of each button take their next values, an accepted edge toggling the level
and recording the time; `REFV` is 1 next exactly when an edge was accepted, and `LED_OUT` then shows both new levels. -/
def Obligations.DetectedEdgesMeetTheGuard : Prop :=
  ∀ s t : State, s.input.rst = false → step s = .next t →
    (∀ k : ButtonId,
      (t.btn k).s1 = buttonSample s.input k ∧ (t.btn k).s2 = (s.btn k).s1 ∧ (t.btn k).s3 = (s.btn k).s2 ∧
      ((s.btn k).acc s.cfg s.now = true →
        (t.btn k).level = !(s.btn k).level ∧ (t.btn k).last = s.now ∧ (t.btn k).seen = true) ∧
      ((s.btn k).acc s.cfg s.now = false →
        (t.btn k).level = (s.btn k).level ∧ (t.btn k).last = (s.btn k).last ∧ (t.btn k).seen = (s.btn k).seen) ∧
      ((s.btn k).acc s.cfg s.now = true ↔ (s.btn k).s3 = true ∧ (s.btn k).s2 = false ∧
        ((s.btn k).seen = false ∨ 200000 < ((s.now : Int) - (s.btn k).last) % (2 ^ s.cfg.timeBits : Nat)))) ∧
    (t.outputs.refreshValid = true ↔ ∃ k : ButtonId, (s.btn k).acc s.cfg s.now = true) ∧
    t.outputs.ledOut.getLsbD 0 = (t.btn .a).level ∧ t.outputs.ledOut.getLsbD 1 = (t.btn .b).level

/-- R197: the same button never has detected edges in two consecutive cycles. -/
def Obligations.NoEdgesInConsecutiveCycles : Prop :=
  ∀ (s t : State) (k : ButtonId), step s = .next t → (s.btn k).fall = true → (t.btn k).fall = false

/-- R84: what Unit M does is independent of Unit D: two states of one machine (the same parameters) that agree on Unit M and on
the reset and command inputs agree on Unit M after the step, whatever their buttons and timers hold. -/
def Obligations.UnitMIsIndependentOfUnitD : Prop :=
  ∀ s t s' t' : State, s.cfg = t.cfg → SameUnitM s t → s.input.rst = t.input.rst → s.input.cmdValid = t.input.cmdValid →
    s.input.cmdData = t.input.cmdData → step s = .next s' → step t = .next t' → SameUnitM s' t'

/-- R84: what Unit D does is independent of Unit M and of the command port. -/
def Obligations.UnitDIsIndependentOfUnitM : Prop :=
  ∀ s t s' t' : State, s.cfg = t.cfg → SameUnitD s t → s.input.rst = t.input.rst → s.input.btnsA = t.input.btnsA →
    s.input.btnsB = t.input.btnsB → step s = .next s' → step t = .next t' → SameUnitD s' t'

/-! ### The transmit sequencer -/

/-- R111, R143: `DOUT` is high exactly in the high part of a bit cell of a frame, `T1H_CYCLES` for a 1 and `T0H_CYCLES` for a
0: by default 16 and 8. -/
def Obligations.DataLineIsHighInTheHighPartOnly : Prop :=
  ∀ s : State, SequencerOk s →
    (s.txs ≠ .shift → s.outputs.dout = false) ∧
    (∀ h : s.pix.toNat < 25, s.txs = .shift →
      (s.outputs.dout = true ↔
        s.ph < (if s.fb[s.pix.toNat].getLsbD s.bitidx.toNat then s.cfg.t1hCycles else s.cfg.t0hCycles)))

/-- R142 with R35: in `SHIFT` the linear position counts up by one each cycle, over all `FRAME_BITS * BIT_CYCLES` positions
(15 000 by default), and after the last one the sequencer is in `GAP` with the position back at (0, 23, 0); the framebuffer does
not change. -/
def Obligations.ShiftAdvancesThePosition : Prop :=
  ∀ s t : State, s.cfg.Positive → SequencerOk s → s.txs = .shift → s.input.rst = false → step s = .next t →
    t.fb = s.fb ∧ s.position < 600 * s.cfg.bitCycles ∧
    (s.position + 1 < 600 * s.cfg.bitCycles → t.txs = .shift ∧ t.position = s.position + 1 ∧ SequencerOk t) ∧
    (s.position + 1 = 600 * s.cfg.bitCycles →
      t.txs = .gap ∧ t.pix = 0#5 ∧ t.bitidx = 23#5 ∧ t.ph = 0 ∧ t.gapcnt = 0)

/-- R144, R145: stepping in `GAP`, and the response at its end. -/
def Obligations.GapCountsAndAnswers : Prop :=
  ∀ s t : State, s.txs = .gap → s.input.rst = false → step s = .next t →
    t.fb = s.fb ∧ t.pix = s.pix ∧ t.bitidx = s.bitidx ∧ t.ph = s.ph ∧
    (s.gapcnt + 1 < s.cfg.gapCycles → t.txs = .gap ∧ t.gapcnt = s.gapcnt + 1 ∧ t.rspv = false) ∧
    (s.cfg.gapCycles ≤ s.gapcnt + 1 →
      t.txs = .idle ∧ t.gapcnt = 0 ∧ t.outputs.cmdReady = true ∧ t.outputs.rspValid = true ∧ t.outputs.rspCode = 0#3)

/-- R107, R148: the timing of a FLUSH or BYTE, from its acceptance to its response `FRAME_BITS * BIT_CYCLES + GAP_CYCLES + 1`
cycles later (17 001 by default), cycle by cycle. No other response is given and no command is accepted in between. -/
def Obligations.TransmissionTakes17001Cycles : Prop :=
  (∀ (s : State) (i : Instr), s.cfg.Positive → s.acceptedCommand s.input = some i → i.transmits = true →
    NoReset (s.cfg.busyCycles + 1) s →
    s.txs = .idle ∧ s.outputs.cmdReady = true ∧ s.outputs.dout = false ∧
    ∀ m, 1 ≤ m → m ≤ s.cfg.busyCycles + 1 → ∃ t : State, stateAfter m s = some t ∧
      (m ≤ s.cfg.frameCycles → t.txs = .shift ∧ t.position = m - 1) ∧
      (s.cfg.frameCycles < m → m ≤ s.cfg.busyCycles →
        t.txs = .gap ∧ t.gapcnt = m - (s.cfg.frameCycles + 1) ∧ t.outputs.dout = false) ∧
      (m ≤ s.cfg.busyCycles → t.outputs.cmdReady = false ∧ t.outputs.rspValid = false) ∧
      (m = s.cfg.busyCycles + 1 → t.txs = .idle ∧ t.outputs.cmdReady = true ∧ t.outputs.dout = false ∧
        t.outputs.rspValid = true ∧ t.outputs.rspCode = 0#3)) ∧
  Config.defaults.Positive ∧ Config.defaults.frameCycles = 15000 ∧ Config.defaults.busyCycles = 17000 ∧
  Config.defaults.Lasts 15000 750000 0 ∧ Config.defaults.Lasts 2000 100000 0 ∧ Config.defaults.Lasts 17000 850000 0

/-- R149: the waveform of a FLUSH or BYTE in closed form, of the framebuffer as it stands in the cycle after acceptance, which
does not change while the frame is on the line (R77, R83); and, for parameters that R9 allows, the receiver of log entry 14
recovers from it exactly one frame, that framebuffer's 600 bits. -/
def Obligations.WaveformHasItsClosedForm : Prop :=
  ∀ (s : State) (i : Instr), s.cfg.Positive → s.acceptedCommand s.input = some i → i.transmits = true →
    NoReset (s.cfg.busyCycles + 1) s →
    ∃ t1 : State, stateAfter 1 s = some t1 ∧
      (∀ m, m < s.cfg.busyCycles → ∃ t : State, stateAfter (1 + m) s = some t ∧ t.fb = t1.fb ∧
        (m < s.cfg.frameCycles → t.outputs.dout = decide (m % s.cfg.bitCycles <
          if frameBit t1.fb (m / s.cfg.bitCycles) then s.cfg.t1hCycles else s.cfg.t0hCycles)) ∧
        (s.cfg.frameCycles ≤ m → t.outputs.dout = false)) ∧
      (s.cfg.Allowed → receive s.cfg (doutAlong s.cfg.busyCycles t1) = [(frameBits t1.fb).map some])

/-- R149: the pulse-width code is uniquely decodable: for parameters that R9 allows, the receiver that measures the high times
(log entry 14) recovers any sequence of bits from its bit cells followed by a low period of `T_GAP_MIN` or more, as one frame. -/
def Obligations.ReceiverRecoversAnyBits : Prop :=
  ∀ (c : Params) (bits : List Bool) (n : Nat), c.Allowed → bits ≠ [] → c.LastsAtLeast n 80000 →
    receive c (lineOfBits c bits ++ List.replicate n false) = [bits.map some]

/-- R133, R174: FLUSH and BYTE whole, from acceptance to answer. FLUSH sends the framebuffer as it was, BYTE its digit's glyph
or all zero, with the echo: one bit cell per bit, then the line low for the gap. No command is accepted and no answer is given
meanwhile; when it is over the framebuffer still stands, the sequencer is at rest, and the answer is OK. -/
def Obligations.FlushAndByteSendTheirFrame : Prop :=
  ∀ (s : State) (i : Instr), s.cfg.Positive → s.acceptedCommand s.input = some i → i.transmits = true →
    NoReset (s.cfg.busyCycles + 1) s →
    ∃ t1 t : State, stateAfter 1 s = some t1 ∧ stateAfter (s.cfg.busyCycles + 1) s = some t ∧
      (i = .flush → t1.fb = s.fb ∧ t1.echov = false) ∧
      (∀ c, i = .byte c → t1.echov = true ∧ t1.echoc = c ∧
        (∀ h : 0x30 ≤ c.toNat ∧ c.toNat ≤ 0x39, ∀ j : Fin 25, t1.fb[j] =
          if (Config.glyphMask ⟨c.toNat - 0x30, by omega⟩).getLsbD j.val then Config.glyphColor ⟨c.toNat - 0x30, by omega⟩
          else 0#24) ∧
        (c.toNat < 0x30 ∨ 0x39 < c.toNat → ∀ j : Fin 25, t1.fb[j] = 0#24)) ∧
      (∀ m, m < s.cfg.busyCycles → ∃ u : State, stateAfter (1 + m) s = some u ∧
        u.outputs.cmdReady = false ∧ u.outputs.rspValid = false ∧
        (u.outputs.dout = true ↔ m < s.cfg.frameCycles ∧ m % s.cfg.bitCycles <
          if frameBit t1.fb (m / s.cfg.bitCycles) then s.cfg.t1hCycles else s.cfg.t0hCycles)) ∧
      t.fb = t1.fb ∧ t.txs = .idle ∧ t.pix = 0#5 ∧ t.bitidx = 23#5 ∧ t.ph = 0 ∧ t.gapcnt = 0 ∧
      t.outputs.cmdReady = true ∧ t.outputs.rspValid = true ∧ t.outputs.rspCode = 0#3

/-- R147: after the last high cycle that a frame can have, the line is low for
`(BIT_CYCLES - T1H_CYCLES) + GAP_CYCLES + 1` cycles at least (2010 by default), and for
`(BIT_CYCLES - T0H_CYCLES) + GAP_CYCLES + 1` when the last bit is 0 (2018 by default); the earliest acceptance of a next command
is in the last of them. The last bit cell begins `FRAME_BITS - 1` bit cells after the cycle after acceptance. -/
def Obligations.LineIsLowBetweenFrames : Prop :=
  ∀ (s t1 : State) (i : Instr), s.cfg.Allowed → s.acceptedCommand s.input = some i → i.transmits = true →
    NoReset (s.cfg.busyCycles + 1) s → stateAfter 1 s = some t1 →
    (∀ m, 1 ≤ m → m ≤ s.cfg.busyCycles → ∃ t : State, stateAfter m s = some t ∧ t.outputs.cmdReady = false) ∧
    (∀ k, k < (s.cfg.bitCycles - s.cfg.t1hCycles) + s.cfg.gapCycles + 1 →
      ∃ t : State, stateAfter (1 + 599 * s.cfg.bitCycles + s.cfg.t1hCycles + k) s = some t ∧ t.outputs.dout = false) ∧
    (frameBit t1.fb 599 = false →
      ∀ k, k < (s.cfg.bitCycles - s.cfg.t0hCycles) + s.cfg.gapCycles + 1 →
        ∃ t : State, stateAfter (1 + 599 * s.cfg.bitCycles + s.cfg.t0hCycles + k) s = some t ∧ t.outputs.dout = false)

/-- R281: a host waits at most `FRAME_BITS * BIT_CYCLES + GAP_CYCLES` cycles for `CMD_READY` (17 000 by default), from any state
that meets the invariant. -/
def Obligations.ReadyWithin17000Cycles : Prop :=
  ∀ s : State, s.cfg.Positive → RegistersOk s → NoReset s.cfg.busyCycles s →
    ∃ n t, n ≤ s.cfg.busyCycles ∧ stateAfter n s = some t ∧ t.outputs.cmdReady = true

/-- R281: a host that holds its command until it is accepted has it accepted, unchanged, within
`FRAME_BITS * BIT_CYCLES + GAP_CYCLES` cycles (17 000 by default). -/
def Obligations.HeldCommandIsAccepted : Prop :=
  ∀ s : State, s.cfg.Positive → RegistersOk s → NoReset (s.cfg.busyCycles + 1) s → HostHolds s.cfg.busyCycles s →
    ∃ n t, n ≤ s.cfg.busyCycles ∧ stateAfter n s = some t ∧
      t.acceptedCommand t.input = some (decodeCommand s.input.cmdData) ∧
      ∀ m u, m < n → stateAfter m s = some u → u.acceptedCommand u.input = none

/-! ### The frame and the framebuffer -/

/-- R134: the 600 bits and the 75 bytes of the frame, and each bit as a bit of its byte, most significant bit first. -/
def Obligations.FrameBitsAreTheBitsOfFrameBytes : Prop :=
  ∀ fb : Framebuffer, (frameBits fb).length = 600 ∧ (frameBytes fb).length = 75 ∧
    (∀ j, ∀ h : j < 600, (frameBits fb)[j]? = some (frameBit fb j) ∧
      frameBit fb j = (fb[j / 24]'(by omega)).getLsbD (23 - j % 24)) ∧
    (∀ q, q < 75 → (frameBytes fb)[q]? = some (frameByte fb q)) ∧
    (∀ q r, q < 75 → r < 8 → frameBit fb (8 * q + r) = (frameByte fb q).getLsbD (7 - r)) ∧
    (∀ i : Fin 25, frameByte fb (3 * i.val) = fb[i].extractLsb' 16 8 ∧
      frameByte fb (3 * i.val + 1) = fb[i].extractLsb' 8 8 ∧ frameByte fb (3 * i.val + 2) = fb[i].extractLsb' 0 8)

/-- R72: the frame is the 600-bit value `MemRead(0, 25)` sent most significant bit first. -/
def Obligations.FrameIsTheWholeFramebufferMsbFirst : Prop :=
  ∀ fb : Framebuffer, ∃ v : BitVec (24 * 25), memRead fb 0 25 = some v ∧
    ∀ j, j < 600 → (frameBits fb)[j]? = some (v.getMsbD j)

/-- R14: `MemRead` after `MemWrite` to the same cells gives the value written, the other cells keep theirs, and both are defined
only within the 25 cells. -/
def Obligations.MemReadAfterMemWrite : Prop :=
  ∀ (fb : Framebuffer) (i n : Nat) (v : BitVec (24 * n)),
    (i + n ≤ 25 → ∃ fb' : Framebuffer, memWrite fb i n v = some fb' ∧ memRead fb' i n = some v ∧
      ∀ j : Fin 25, j.val < i ∨ i + n ≤ j.val → fb'[j] = fb[j]) ∧
    (25 < i + n → memWrite fb i n v = none ∧ memRead fb i n = none)

/-- R131 with 90_conflicts.md C6: on an all-zero framebuffer, a SET gives a frame with green, red and blue of the pixel at its
place and zero elsewhere. -/
def Obligations.SetOnBlankGivesThePixelsBytes : Prop :=
  ∀ (s : State) (idx : BitVec 5) (pix : Pixel), s.fb = blankFramebuffer → idx.toNat < 25 →
    ∃ t : State, exec (.set idx pix) s = .next t ∧
      ∀ q, q < 75 → (frameBytes t.fb)[q]? = some
        (if q = 3 * idx.toNat then pix.extractLsb' 16 8
         else if q = 3 * idx.toNat + 1 then pix.extractLsb' 8 8
         else if q = 3 * idx.toNat + 2 then pix.extractLsb' 0 8
         else 0#8)

/-- R71: the layout is row-major, cell `i` at row `i div 5` and column `i mod 5` and the cell at row `r`, column `c` at index
`5 * r + c`; the row and column of a cell and its index determine each other. -/
def Obligations.CellPlacesAreRowMajor : Prop :=
  (∀ i, i < 25 → cellRow i = i / 5 ∧ cellColumn i = i % 5 ∧
    cellRow i < 5 ∧ cellColumn i < 5 ∧ cellIndex (cellRow i) (cellColumn i) = i) ∧
  (∀ r c, r < 5 → c < 5 → cellIndex r c = 5 * r + c ∧
    cellIndex r c < 25 ∧ cellRow (cellIndex r c) = r ∧ cellColumn (cellIndex r c) = c)

/-! ### Invariants -/

/-- R51 at reset: all its clauses hold in cycle 0. -/
def Obligations.ResetStateMeetsTheInvariant : Prop := RegistersOk State.reset ∧ TimesOk State.reset

/-- R51, all clauses but (h), with R30's width of the timer's values: every step from every state that meets them leads to one
that does, for all parameters. -/
def Obligations.EveryStepKeepsTheInvariant : Prop :=
  ∀ s t : State, RegistersOk s → step s = .next t → RegistersOk t

/-- R51 (h), R207: as long as `NOW` does not wrap, no recorded time lies after `NOW`, and recorded times never decrease. -/
def Obligations.RecordedTimesStayBehindNow : Prop :=
  ∀ s t : State, TimesOk s → s.now + 1 < 2 ^ s.cfg.timeBits → step s = .next t →
    TimesOk t ∧ (s.input.rst = false → s.now ≤ t.now ∧
      ∀ k : ButtonId, (s.btn k).last ≤ (t.btn k).last)

/-- R30: in every state that meets the invariant the counts are within the legal values of R30's table, so with the default
parameters they have its widths (log entry 4): `PH` 5 bits, `GAPCNT` 11, `PRE` 5, `NOW` and `LAST` `TIME_BITS`, which is 64. -/
def Obligations.CountersHaveTheirWidths : Prop :=
  ∀ s : State, RegistersOk s →
    (s.cfg.Positive → s.ph < s.cfg.bitCycles ∧ s.gapcnt < s.cfg.gapCycles ∧ s.pre < s.cfg.usCycles) ∧
    s.now < 2 ^ s.cfg.timeBits ∧ (∀ k : ButtonId, (s.btn k).last < 2 ^ s.cfg.timeBits) ∧
    (s.cfg = Config.defaults → s.ph < 2 ^ 5 ∧ s.gapcnt < 2 ^ 11 ∧ s.pre < 2 ^ 5 ∧ s.now < 2 ^ 64 ∧
      ∀ k : ButtonId, (s.btn k).last < 2 ^ 64)

/-! ### The timer, the synchronizer and the debounce along a run -/

/-- R191: from reset, `NOW` is the whole number of microseconds since cycle 0 and `PRE` the cycles within the current one. -/
def Obligations.TimerCountsMicrosecondsFromReset : Prop :=
  ∀ (n : Nat) (p : Params) (xs : List Inputs) (e : Nat), 0 < p.usCycles →
    NoReset n { State.reset with cfg := p, inputs := xs, envTick := e } →
    ∃ t : State, stateAfter n { State.reset with cfg := p, inputs := xs, envTick := e } = some t ∧
      t.now = (n / p.usCycles) % 2 ^ p.timeBits ∧ t.pre = n % p.usCycles

/-- R196, R197: from reset, the flops show the samples of two and three cycles before; no edge is detected in cycles 0, 1 and 2. -/
def Obligations.SynchronizerDelaysTheSamples : Prop :=
  ∀ (n : Nat) (p : Params) (xs : List Inputs) (e : Nat) (s : State) (k : ButtonId),
    s = { State.reset with cfg := p, inputs := xs, envTick := e } → NoReset n s →
    ∃ t : State, stateAfter n s = some t ∧
      (n ≤ 2 → (t.btn k).s3 = false ∧ (t.btn k).fall = false) ∧
      (3 ≤ n → (t.btn k).s2 = buttonSample (s.inputAt (n - 2)) k ∧ (t.btn k).s3 = buttonSample (s.inputAt (n - 3)) k)

/-- R197, R272: a button that is held low when reset ends, and stays low, never produces a detected edge. -/
def Obligations.HeldButtonIsNoPress : Prop :=
  ∀ (n : Nat) (p : Params) (xs : List Inputs) (e : Nat) (s t : State) (k : ButtonId),
    s = { State.reset with cfg := p, inputs := xs, envTick := e } → NoReset n s →
    (∀ m, m < n → buttonSample (s.inputAt m) k = false) → stateAfter n s = some t →
    (t.btn k).fall = false ∧ (t.btn k).level = false ∧ (t.btn k).seen = false

/-- R208 (a): while `NOW` is not more than 200 000 µs past the last accepted edge, every detected edge of the button is rejected,
however many there are and however they are spaced; nothing of the Button State moves. -/
def Obligations.ChatterInTheWindowIsDropped : Prop :=
  ∀ (n : Nat) (s t : State) (k : ButtonId), (s.btn k).seen = true → NoReset n s →
    (∀ m u, m < n → stateAfter m s = some u →
      (s.btn k).last ≤ u.now ∧ u.now ≤ (s.btn k).last + 200000) →
    stateAfter n s = some t →
    (t.btn k).level = (s.btn k).level ∧ (t.btn k).last = (s.btn k).last ∧ (t.btn k).seen = true

/-- R208 (c): an edge detected `D` cycles after the accepted one passes the guard exactly when `D` is at least 200 001
microseconds, or more than 200 000 with the prescaler phase of the accepted edge large enough: by default at least 4 000 020
cycles, or at least 4 000 001. For separations within one turn of the timer. -/
def Obligations.GuardBoundaryInCycles : Prop :=
  ∀ (D : Nat) (s u : State) (k : ButtonId), 0 < s.cfg.usCycles → TimerOk s → s.now < 2 ^ s.cfg.timeBits → NoReset D s → 0 < D →
    (s.pre + D) / s.cfg.usCycles < 2 ^ s.cfg.timeBits →
    stateAfter D s = some u → (u.btn k).seen = true → (u.btn k).last = s.now →
    ((u.btn k).pass u.cfg u.now = true ↔
      200001 * s.cfg.usCycles ≤ D ∨ (200000 * s.cfg.usCycles < D ∧ s.cfg.usCycles ≤ s.pre + D % s.cfg.usCycles)) ∧
    (s.cfg.usCycles = 20 →
      ((u.btn k).pass u.cfg u.now = true ↔ 4000020 ≤ D ∨ (4000001 ≤ D ∧ 20 ≤ s.pre + D % 20)))

/-- R208 (d): from reset, the level of a button is the parity of the number of its accepted edges. -/
def Obligations.LevelIsTheParityOfAcceptedEdges : Prop :=
  ∀ (n : Nat) (p : Params) (xs : List Inputs) (e : Nat) (s : State) (k : ButtonId),
    s = { State.reset with cfg := p, inputs := xs, envTick := e } → NoReset n s →
    ∃ t : State, stateAfter n s = some t ∧ (t.btn k).level = decide (acceptedEdges k n s % 2 = 1) ∧
      (t.btn k).seen = decide (0 < acceptedEdges k n s)

/-! ### The two levels of description -/

/-- R90: over any number of cycles without reset, the framebuffer and the Button States at the cycle level are those of the
transaction level after the same operations in order. -/
def Obligations.CycleLevelRefinesTransactions : Prop :=
  ∀ (n : Nat) (s : State), NoReset n s →
    ∃ t : State, stateAfter n s = some t ∧ t.abs = transactAll s.cfg (operationsAlong n s) s.abs

/-- R90, R175: what an accepted command gives to the outside at the transaction level, in order, is what the ports begin to show
in the next cycle: its response at once, or its echo and its frame. A BYTE's echo comes before its frame, the frame before the
answer. -/
def Obligations.PortsShowTheTransactionsEffects : Prop :=
  ∀ (s t : State) (i : Instr), s.acceptedCommand s.input = some i → step s = .next t →
    (i.transmits = false → ∃ r : RspCode, (transact s.cfg i s.now s.abs).2 = [.respond r] ∧
      t.outputs.rspValid = true ∧ t.outputs.rspCode = r.code ∧
      t.txs = s.txs ∧ t.outputs.dout = false ∧ t.outputs.echoValid = false) ∧
    (i.transmits = true → t.outputs.rspValid = false ∧ t.txs = .shift ∧ t.position = 0) ∧
    (i = .flush → (transact s.cfg i s.now s.abs).2 = [.frame (frameBits t.fb), .respond .ok] ∧
      t.outputs.echoValid = false) ∧
    (∀ c, i = .byte c → (transact s.cfg i s.now s.abs).2 = [.echo c, .frame (frameBits t.fb), .respond .ok] ∧
      t.outputs.echoValid = true ∧ t.outputs.echoChar = c)

/-! ### The boundary of the block -/

/-- R108, R109, R242 (c): what the one-cycle pulses ask of the Display Surface adapter; both requests are made when both pulses
fall in one cycle, in either order. The list of calls and the types of the adapter's parameters are the model's choice (log
entries 6 and 14). -/
def Obligations.PulsesAreTheAdaptersRequests : Prop :=
  ∀ s : State,
    (s.echov = false → s.refv = false → s.surfaceCalls = []) ∧
    (s.echov = true → s.refv = false → s.surfaceCalls = (Request.echo s.echoc).calls) ∧
    (s.echov = false → s.refv = true → s.surfaceCalls = (Request.refresh s.btnA.level s.btnB.level).calls) ∧
    (s.echov = true → s.refv = true →
      s.surfaceCalls = (Request.echo s.echoc).calls ++ (Request.refresh s.btnA.level s.btnB.level).calls ∨
      s.surfaceCalls = (Request.refresh s.btnA.level s.btnB.level).calls ++ (Request.echo s.echoc).calls)

/-- R153, R9: the default cycle parameters, which State.reset has (log entry 4), meet R9's constraints, with the high times, the
period, the low times, the gap and the microsecond at their nominal values exactly; and every choice that meets R9's constraints
conforms to R153, however near "near 1250 ns" has to be (log entry 17), and has no count of 0 cycles, so that the statements
about parameters with positive counts hold of it. -/
def Obligations.DefaultParametersConform : Prop :=
  (State.reset.cfg = Config.defaults ∧ Config.defaults.clkHz = 20000000 ∧ Config.defaults.bitCycles = 25 ∧
    Config.defaults.t0hCycles = 8 ∧ Config.defaults.t1hCycles = 16 ∧ Config.defaults.gapCycles = 2000 ∧
    Config.defaults.usCycles = 20 ∧ Config.defaults.timeBits = 64) ∧
  Config.defaults.Allowed ∧ Config.defaults.Positive ∧
  Config.defaults.Lasts Config.defaults.bitCycles 1250 0 ∧
  Config.defaults.Lasts Config.defaults.t0hCycles 400 0 ∧ Config.defaults.Lasts Config.defaults.t1hCycles 800 0 ∧
  Config.defaults.Lasts (Config.defaults.bitCycles - Config.defaults.t0hCycles) 850 0 ∧
  Config.defaults.Lasts (Config.defaults.bitCycles - Config.defaults.t1hCycles) 450 0 ∧
  Config.defaults.Lasts Config.defaults.gapCycles 100000 0 ∧ Config.defaults.Lasts Config.defaults.usCycles 1000 0 ∧
  ∀ c : Params, c.Allowed → c.Conforms ∧ c.Positive
end

