-- ==== Sys2Proof/Laws/Decode.lean ====
section
/-! SUPPORT. The decoder on words written by their fields. -/

namespace Sys2Proof

/-! ### The fields as numbers -/

theorem append_toNat (m n : Nat) (a : BitVec m) (b : BitVec n) : (a ++ b).toNat = a.toNat * 2 ^ n + b.toNat := by
  rw [BitVec.toNat_append, ← Nat.shiftLeft_add_eq_or_of_lt b.isLt, Nat.shiftLeft_eq]

theorem commandWord_toNat (op : BitVec 3) (low : BitVec 29) :
    (commandWord op low).toNat = op.toNat * 2 ^ 29 + low.toNat := append_toNat 3 29 op low

theorem opField_toNat (w : CmdWord) : (opField w).toNat = w.toNat / 2 ^ 29 := by
  have h := w.isLt
  simp only [opField, BitVec.extractLsb'_toNat, Nat.shiftRight_eq_div_pow]
  omega

theorem idxField_toNat (w : CmdWord) : (idxField w).toNat = w.toNat / 2 ^ 24 % 32 := by
  simp only [idxField, BitVec.extractLsb'_toNat, Nat.shiftRight_eq_div_pow]

theorem pixField_toNat (w : CmdWord) : (pixField w).toNat = w.toNat % 2 ^ 24 := by
  simp only [pixField, BitVec.extractLsb'_toNat, Nat.shiftRight_zero]

theorem imm8Field_toNat (w : CmdWord) : (imm8Field w).toNat = w.toNat % 256 := by
  simp only [imm8Field, BitVec.extractLsb'_toNat, Nat.shiftRight_zero]

theorem opField_commandWord (op : BitVec 3) (low : BitVec 29) : opField (commandWord op low) = op := by
  have h := low.isLt
  apply BitVec.eq_of_toNat_eq
  rw [opField_toNat, commandWord_toNat]
  omega

/-- A word is its opcode and its low 29 bits. -/
theorem commandWord_of_fields (w : CmdWord) : commandWord (opField w) (w.setWidth 29) = w := by
  apply BitVec.eq_of_toNat_eq
  rw [commandWord_toNat, opField_toNat, BitVec.toNat_setWidth]
  omega

/-! ### What a word decodes to -/

/-- The operation selected depends on `op` alone; the operands of the three operations that have any are the fields. -/
theorem decodeCommand_cases (w : CmdWord) :
    ((opField w).toNat = 0 ∧ decodeCommand w = .reserved0) ∨
    ((opField w).toNat = 1 ∧ decodeCommand w = .set (idxField w) (pixField w)) ∨
    ((opField w).toNat = 2 ∧ decodeCommand w = .clear) ∨
    ((opField w).toNat = 3 ∧ decodeCommand w = .flush) ∨
    ((opField w).toNat = 4 ∧ decodeCommand w = .glyph (imm8Field w)) ∨
    ((opField w).toNat = 5 ∧ decodeCommand w = .byte (imm8Field w)) ∨
    ((opField w).toNat = 6 ∧ decodeCommand w = .reserved6) ∨
    ((opField w).toNat = 7 ∧ decodeCommand w = .reserved7) := by
  have h := (opField w).isLt
  unfold decodeCommand
  generalize (opField w).toNat = n at h ⊢
  match n, h with
  | 0, _ => simp
  | 1, _ => simp
  | 2, _ => simp
  | 3, _ => simp
  | 4, _ => simp
  | 5, _ => simp
  | 6, _ => simp
  | 7, _ => simp

/-- The command port never carries an event operation (R110). -/
theorem decodeCommand_isCommand (w : CmdWord) : (decodeCommand w).isCommand = true := by
  rcases decodeCommand_cases w with h | h | h | h | h | h | h | h <;> rw [h.2] <;> rfl

/-- What the edge flops select (R110). -/
theorem decodeEvent_cases (k : ButtonId) (s3 s2 : Bool) :
    (s3 = true ∧ s2 = false ∧ decodeEvent k s3 s2 = .ok (match k with | .a => .edgeA | .b => .edgeB)) ∨
    ((s3 = false ∨ s2 = true) ∧ decodeEvent k s3 s2 = .error (.noFallingEdge k)) := by
  cases s3 <;> cases s2 <;> cases k <;> simp [decodeEvent]

end Sys2Proof
end

