-- ==== Sys2Proof/Laws/State.lean ====
section
/-! SUPPORT. One lemma per field per update of the state, true by rfl, so that no proof unfolds a record update. -/

namespace Sys2Proof.Machine

open Sys2Proof

/-! ### respond -/

@[simp] theorem State.respond_fb (c : RspCode) (s : State) : (s.respond c).fb = s.fb := rfl
@[simp] theorem State.respond_txs (c : RspCode) (s : State) : (s.respond c).txs = s.txs := rfl
@[simp] theorem State.respond_pix (c : RspCode) (s : State) : (s.respond c).pix = s.pix := rfl
@[simp] theorem State.respond_bitidx (c : RspCode) (s : State) : (s.respond c).bitidx = s.bitidx := rfl
@[simp] theorem State.respond_ph (c : RspCode) (s : State) : (s.respond c).ph = s.ph := rfl
@[simp] theorem State.respond_gapcnt (c : RspCode) (s : State) : (s.respond c).gapcnt = s.gapcnt := rfl
@[simp] theorem State.respond_rspv (c : RspCode) (s : State) : (s.respond c).rspv = true := rfl
@[simp] theorem State.respond_rspc (c : RspCode) (s : State) : (s.respond c).rspc = c.code := rfl
@[simp] theorem State.respond_echov (c : RspCode) (s : State) : (s.respond c).echov = s.echov := rfl
@[simp] theorem State.respond_echoc (c : RspCode) (s : State) : (s.respond c).echoc = s.echoc := rfl
@[simp] theorem State.respond_btnA (c : RspCode) (s : State) : (s.respond c).btnA = s.btnA := rfl
@[simp] theorem State.respond_btnB (c : RspCode) (s : State) : (s.respond c).btnB = s.btnB := rfl
@[simp] theorem State.respond_now (c : RspCode) (s : State) : (s.respond c).now = s.now := rfl
@[simp] theorem State.respond_pre (c : RspCode) (s : State) : (s.respond c).pre = s.pre := rfl
@[simp] theorem State.respond_refv (c : RspCode) (s : State) : (s.respond c).refv = s.refv := rfl
@[simp] theorem State.respond_cfg (c : RspCode) (s : State) : (s.respond c).cfg = s.cfg := rfl
@[simp] theorem State.respond_inputs (c : RspCode) (s : State) : (s.respond c).inputs = s.inputs := rfl
@[simp] theorem State.respond_envTick (c : RspCode) (s : State) : (s.respond c).envTick = s.envTick := rfl

/-! ### raiseError -/

@[simp] theorem State.raiseError_fb (e : RspCode) (s : State) : (s.raiseError e).fb = s.fb := rfl
@[simp] theorem State.raiseError_txs (e : RspCode) (s : State) : (s.raiseError e).txs = s.txs := rfl
@[simp] theorem State.raiseError_pix (e : RspCode) (s : State) : (s.raiseError e).pix = s.pix := rfl
@[simp] theorem State.raiseError_bitidx (e : RspCode) (s : State) : (s.raiseError e).bitidx = s.bitidx := rfl
@[simp] theorem State.raiseError_ph (e : RspCode) (s : State) : (s.raiseError e).ph = s.ph := rfl
@[simp] theorem State.raiseError_gapcnt (e : RspCode) (s : State) : (s.raiseError e).gapcnt = s.gapcnt := rfl
@[simp] theorem State.raiseError_rspv (e : RspCode) (s : State) : (s.raiseError e).rspv = true := rfl
@[simp] theorem State.raiseError_rspc (e : RspCode) (s : State) : (s.raiseError e).rspc = e.code := rfl
@[simp] theorem State.raiseError_echov (e : RspCode) (s : State) : (s.raiseError e).echov = s.echov := rfl
@[simp] theorem State.raiseError_echoc (e : RspCode) (s : State) : (s.raiseError e).echoc = s.echoc := rfl
@[simp] theorem State.raiseError_btnA (e : RspCode) (s : State) : (s.raiseError e).btnA = s.btnA := rfl
@[simp] theorem State.raiseError_btnB (e : RspCode) (s : State) : (s.raiseError e).btnB = s.btnB := rfl
@[simp] theorem State.raiseError_now (e : RspCode) (s : State) : (s.raiseError e).now = s.now := rfl
@[simp] theorem State.raiseError_pre (e : RspCode) (s : State) : (s.raiseError e).pre = s.pre := rfl
@[simp] theorem State.raiseError_refv (e : RspCode) (s : State) : (s.raiseError e).refv = s.refv := rfl
@[simp] theorem State.raiseError_cfg (e : RspCode) (s : State) : (s.raiseError e).cfg = s.cfg := rfl
@[simp] theorem State.raiseError_inputs (e : RspCode) (s : State) : (s.raiseError e).inputs = s.inputs := rfl
@[simp] theorem State.raiseError_envTick (e : RspCode) (s : State) : (s.raiseError e).envTick = s.envTick := rfl

/-! ### writeFb -/

@[simp] theorem State.writeFb_fb (fb : Framebuffer) (s : State) : (s.writeFb fb).fb = fb := rfl
@[simp] theorem State.writeFb_txs (fb : Framebuffer) (s : State) : (s.writeFb fb).txs = s.txs := rfl
@[simp] theorem State.writeFb_pix (fb : Framebuffer) (s : State) : (s.writeFb fb).pix = s.pix := rfl
@[simp] theorem State.writeFb_bitidx (fb : Framebuffer) (s : State) : (s.writeFb fb).bitidx = s.bitidx := rfl
@[simp] theorem State.writeFb_ph (fb : Framebuffer) (s : State) : (s.writeFb fb).ph = s.ph := rfl
@[simp] theorem State.writeFb_gapcnt (fb : Framebuffer) (s : State) : (s.writeFb fb).gapcnt = s.gapcnt := rfl
@[simp] theorem State.writeFb_rspv (fb : Framebuffer) (s : State) : (s.writeFb fb).rspv = s.rspv := rfl
@[simp] theorem State.writeFb_rspc (fb : Framebuffer) (s : State) : (s.writeFb fb).rspc = s.rspc := rfl
@[simp] theorem State.writeFb_echov (fb : Framebuffer) (s : State) : (s.writeFb fb).echov = s.echov := rfl
@[simp] theorem State.writeFb_echoc (fb : Framebuffer) (s : State) : (s.writeFb fb).echoc = s.echoc := rfl
@[simp] theorem State.writeFb_btnA (fb : Framebuffer) (s : State) : (s.writeFb fb).btnA = s.btnA := rfl
@[simp] theorem State.writeFb_btnB (fb : Framebuffer) (s : State) : (s.writeFb fb).btnB = s.btnB := rfl
@[simp] theorem State.writeFb_now (fb : Framebuffer) (s : State) : (s.writeFb fb).now = s.now := rfl
@[simp] theorem State.writeFb_pre (fb : Framebuffer) (s : State) : (s.writeFb fb).pre = s.pre := rfl
@[simp] theorem State.writeFb_refv (fb : Framebuffer) (s : State) : (s.writeFb fb).refv = s.refv := rfl
@[simp] theorem State.writeFb_cfg (fb : Framebuffer) (s : State) : (s.writeFb fb).cfg = s.cfg := rfl
@[simp] theorem State.writeFb_inputs (fb : Framebuffer) (s : State) : (s.writeFb fb).inputs = s.inputs := rfl
@[simp] theorem State.writeFb_envTick (fb : Framebuffer) (s : State) : (s.writeFb fb).envTick = s.envTick := rfl

/-! ### startTx -/

@[simp] theorem State.startTx_fb (s : State) : (s.startTx).fb = s.fb := rfl
@[simp] theorem State.startTx_txs (s : State) : (s.startTx).txs = .shift := rfl
@[simp] theorem State.startTx_pix (s : State) : (s.startTx).pix = 0 := rfl
@[simp] theorem State.startTx_bitidx (s : State) : (s.startTx).bitidx = 23 := rfl
@[simp] theorem State.startTx_ph (s : State) : (s.startTx).ph = 0 := rfl
@[simp] theorem State.startTx_gapcnt (s : State) : (s.startTx).gapcnt = s.gapcnt := rfl
@[simp] theorem State.startTx_rspv (s : State) : (s.startTx).rspv = s.rspv := rfl
@[simp] theorem State.startTx_rspc (s : State) : (s.startTx).rspc = s.rspc := rfl
@[simp] theorem State.startTx_echov (s : State) : (s.startTx).echov = s.echov := rfl
@[simp] theorem State.startTx_echoc (s : State) : (s.startTx).echoc = s.echoc := rfl
@[simp] theorem State.startTx_btnA (s : State) : (s.startTx).btnA = s.btnA := rfl
@[simp] theorem State.startTx_btnB (s : State) : (s.startTx).btnB = s.btnB := rfl
@[simp] theorem State.startTx_now (s : State) : (s.startTx).now = s.now := rfl
@[simp] theorem State.startTx_pre (s : State) : (s.startTx).pre = s.pre := rfl
@[simp] theorem State.startTx_refv (s : State) : (s.startTx).refv = s.refv := rfl
@[simp] theorem State.startTx_cfg (s : State) : (s.startTx).cfg = s.cfg := rfl
@[simp] theorem State.startTx_inputs (s : State) : (s.startTx).inputs = s.inputs := rfl
@[simp] theorem State.startTx_envTick (s : State) : (s.startTx).envTick = s.envTick := rfl

/-! ### emitEcho -/

@[simp] theorem State.emitEcho_fb (c : Byte) (s : State) : (s.emitEcho c).fb = s.fb := rfl
@[simp] theorem State.emitEcho_txs (c : Byte) (s : State) : (s.emitEcho c).txs = s.txs := rfl
@[simp] theorem State.emitEcho_pix (c : Byte) (s : State) : (s.emitEcho c).pix = s.pix := rfl
@[simp] theorem State.emitEcho_bitidx (c : Byte) (s : State) : (s.emitEcho c).bitidx = s.bitidx := rfl
@[simp] theorem State.emitEcho_ph (c : Byte) (s : State) : (s.emitEcho c).ph = s.ph := rfl
@[simp] theorem State.emitEcho_gapcnt (c : Byte) (s : State) : (s.emitEcho c).gapcnt = s.gapcnt := rfl
@[simp] theorem State.emitEcho_rspv (c : Byte) (s : State) : (s.emitEcho c).rspv = s.rspv := rfl
@[simp] theorem State.emitEcho_rspc (c : Byte) (s : State) : (s.emitEcho c).rspc = s.rspc := rfl
@[simp] theorem State.emitEcho_echov (c : Byte) (s : State) : (s.emitEcho c).echov = true := rfl
@[simp] theorem State.emitEcho_echoc (c : Byte) (s : State) : (s.emitEcho c).echoc = c := rfl
@[simp] theorem State.emitEcho_btnA (c : Byte) (s : State) : (s.emitEcho c).btnA = s.btnA := rfl
@[simp] theorem State.emitEcho_btnB (c : Byte) (s : State) : (s.emitEcho c).btnB = s.btnB := rfl
@[simp] theorem State.emitEcho_now (c : Byte) (s : State) : (s.emitEcho c).now = s.now := rfl
@[simp] theorem State.emitEcho_pre (c : Byte) (s : State) : (s.emitEcho c).pre = s.pre := rfl
@[simp] theorem State.emitEcho_refv (c : Byte) (s : State) : (s.emitEcho c).refv = s.refv := rfl
@[simp] theorem State.emitEcho_cfg (c : Byte) (s : State) : (s.emitEcho c).cfg = s.cfg := rfl
@[simp] theorem State.emitEcho_inputs (c : Byte) (s : State) : (s.emitEcho c).inputs = s.inputs := rfl
@[simp] theorem State.emitEcho_envTick (c : Byte) (s : State) : (s.emitEcho c).envTick = s.envTick := rfl

/-! ### clearPulses -/

@[simp] theorem State.clearPulses_fb (s : State) : (s.clearPulses).fb = s.fb := rfl
@[simp] theorem State.clearPulses_txs (s : State) : (s.clearPulses).txs = s.txs := rfl
@[simp] theorem State.clearPulses_pix (s : State) : (s.clearPulses).pix = s.pix := rfl
@[simp] theorem State.clearPulses_bitidx (s : State) : (s.clearPulses).bitidx = s.bitidx := rfl
@[simp] theorem State.clearPulses_ph (s : State) : (s.clearPulses).ph = s.ph := rfl
@[simp] theorem State.clearPulses_gapcnt (s : State) : (s.clearPulses).gapcnt = s.gapcnt := rfl
@[simp] theorem State.clearPulses_rspv (s : State) : (s.clearPulses).rspv = false := rfl
@[simp] theorem State.clearPulses_rspc (s : State) : (s.clearPulses).rspc = 0 := rfl
@[simp] theorem State.clearPulses_echov (s : State) : (s.clearPulses).echov = false := rfl
@[simp] theorem State.clearPulses_echoc (s : State) : (s.clearPulses).echoc = 0 := rfl
@[simp] theorem State.clearPulses_btnA (s : State) : (s.clearPulses).btnA = s.btnA := rfl
@[simp] theorem State.clearPulses_btnB (s : State) : (s.clearPulses).btnB = s.btnB := rfl
@[simp] theorem State.clearPulses_now (s : State) : (s.clearPulses).now = s.now := rfl
@[simp] theorem State.clearPulses_pre (s : State) : (s.clearPulses).pre = s.pre := rfl
@[simp] theorem State.clearPulses_refv (s : State) : (s.clearPulses).refv = false := rfl
@[simp] theorem State.clearPulses_cfg (s : State) : (s.clearPulses).cfg = s.cfg := rfl
@[simp] theorem State.clearPulses_inputs (s : State) : (s.clearPulses).inputs = s.inputs := rfl
@[simp] theorem State.clearPulses_envTick (s : State) : (s.clearPulses).envTick = s.envTick := rfl

/-! ### emitRefresh -/

@[simp] theorem State.emitRefresh_fb (s : State) : (s.emitRefresh).fb = s.fb := rfl
@[simp] theorem State.emitRefresh_txs (s : State) : (s.emitRefresh).txs = s.txs := rfl
@[simp] theorem State.emitRefresh_pix (s : State) : (s.emitRefresh).pix = s.pix := rfl
@[simp] theorem State.emitRefresh_bitidx (s : State) : (s.emitRefresh).bitidx = s.bitidx := rfl
@[simp] theorem State.emitRefresh_ph (s : State) : (s.emitRefresh).ph = s.ph := rfl
@[simp] theorem State.emitRefresh_gapcnt (s : State) : (s.emitRefresh).gapcnt = s.gapcnt := rfl
@[simp] theorem State.emitRefresh_rspv (s : State) : (s.emitRefresh).rspv = s.rspv := rfl
@[simp] theorem State.emitRefresh_rspc (s : State) : (s.emitRefresh).rspc = s.rspc := rfl
@[simp] theorem State.emitRefresh_echov (s : State) : (s.emitRefresh).echov = s.echov := rfl
@[simp] theorem State.emitRefresh_echoc (s : State) : (s.emitRefresh).echoc = s.echoc := rfl
@[simp] theorem State.emitRefresh_btnA (s : State) : (s.emitRefresh).btnA = s.btnA := rfl
@[simp] theorem State.emitRefresh_btnB (s : State) : (s.emitRefresh).btnB = s.btnB := rfl
@[simp] theorem State.emitRefresh_now (s : State) : (s.emitRefresh).now = s.now := rfl
@[simp] theorem State.emitRefresh_pre (s : State) : (s.emitRefresh).pre = s.pre := rfl
@[simp] theorem State.emitRefresh_refv (s : State) : (s.emitRefresh).refv = true := rfl
@[simp] theorem State.emitRefresh_cfg (s : State) : (s.emitRefresh).cfg = s.cfg := rfl
@[simp] theorem State.emitRefresh_inputs (s : State) : (s.emitRefresh).inputs = s.inputs := rfl
@[simp] theorem State.emitRefresh_envTick (s : State) : (s.emitRefresh).envTick = s.envTick := rfl

/-! ### setBtn -/

@[simp] theorem State.setBtn_fb (k : ButtonId) (b : ButtonRegs) (s : State) : (s.setBtn k b).fb = s.fb := rfl
@[simp] theorem State.setBtn_txs (k : ButtonId) (b : ButtonRegs) (s : State) : (s.setBtn k b).txs = s.txs := rfl
@[simp] theorem State.setBtn_pix (k : ButtonId) (b : ButtonRegs) (s : State) : (s.setBtn k b).pix = s.pix := rfl
@[simp] theorem State.setBtn_bitidx (k : ButtonId) (b : ButtonRegs) (s : State) : (s.setBtn k b).bitidx = s.bitidx := rfl
@[simp] theorem State.setBtn_ph (k : ButtonId) (b : ButtonRegs) (s : State) : (s.setBtn k b).ph = s.ph := rfl
@[simp] theorem State.setBtn_gapcnt (k : ButtonId) (b : ButtonRegs) (s : State) : (s.setBtn k b).gapcnt = s.gapcnt := rfl
@[simp] theorem State.setBtn_rspv (k : ButtonId) (b : ButtonRegs) (s : State) : (s.setBtn k b).rspv = s.rspv := rfl
@[simp] theorem State.setBtn_rspc (k : ButtonId) (b : ButtonRegs) (s : State) : (s.setBtn k b).rspc = s.rspc := rfl
@[simp] theorem State.setBtn_echov (k : ButtonId) (b : ButtonRegs) (s : State) : (s.setBtn k b).echov = s.echov := rfl
@[simp] theorem State.setBtn_echoc (k : ButtonId) (b : ButtonRegs) (s : State) : (s.setBtn k b).echoc = s.echoc := rfl
@[simp] theorem State.setBtn_now (k : ButtonId) (b : ButtonRegs) (s : State) : (s.setBtn k b).now = s.now := rfl
@[simp] theorem State.setBtn_pre (k : ButtonId) (b : ButtonRegs) (s : State) : (s.setBtn k b).pre = s.pre := rfl
@[simp] theorem State.setBtn_refv (k : ButtonId) (b : ButtonRegs) (s : State) : (s.setBtn k b).refv = s.refv := rfl
@[simp] theorem State.setBtn_cfg (k : ButtonId) (b : ButtonRegs) (s : State) : (s.setBtn k b).cfg = s.cfg := rfl
@[simp] theorem State.setBtn_inputs (k : ButtonId) (b : ButtonRegs) (s : State) : (s.setBtn k b).inputs = s.inputs := rfl
@[simp] theorem State.setBtn_envTick (k : ButtonId) (b : ButtonRegs) (s : State) : (s.setBtn k b).envTick = s.envTick := rfl

/-! ### sampleButtons -/

@[simp] theorem State.sampleButtons_fb (x : Inputs) (s : State) : (s.sampleButtons x).fb = s.fb := rfl
@[simp] theorem State.sampleButtons_txs (x : Inputs) (s : State) : (s.sampleButtons x).txs = s.txs := rfl
@[simp] theorem State.sampleButtons_pix (x : Inputs) (s : State) : (s.sampleButtons x).pix = s.pix := rfl
@[simp] theorem State.sampleButtons_bitidx (x : Inputs) (s : State) : (s.sampleButtons x).bitidx = s.bitidx := rfl
@[simp] theorem State.sampleButtons_ph (x : Inputs) (s : State) : (s.sampleButtons x).ph = s.ph := rfl
@[simp] theorem State.sampleButtons_gapcnt (x : Inputs) (s : State) : (s.sampleButtons x).gapcnt = s.gapcnt := rfl
@[simp] theorem State.sampleButtons_rspv (x : Inputs) (s : State) : (s.sampleButtons x).rspv = s.rspv := rfl
@[simp] theorem State.sampleButtons_rspc (x : Inputs) (s : State) : (s.sampleButtons x).rspc = s.rspc := rfl
@[simp] theorem State.sampleButtons_echov (x : Inputs) (s : State) : (s.sampleButtons x).echov = s.echov := rfl
@[simp] theorem State.sampleButtons_echoc (x : Inputs) (s : State) : (s.sampleButtons x).echoc = s.echoc := rfl
@[simp] theorem State.sampleButtons_btnA (x : Inputs) (s : State) : (s.sampleButtons x).btnA = s.btnA.sample x.btnsA := rfl
@[simp] theorem State.sampleButtons_btnB (x : Inputs) (s : State) : (s.sampleButtons x).btnB = s.btnB.sample x.btnsB := rfl
@[simp] theorem State.sampleButtons_now (x : Inputs) (s : State) : (s.sampleButtons x).now = s.now := rfl
@[simp] theorem State.sampleButtons_pre (x : Inputs) (s : State) : (s.sampleButtons x).pre = s.pre := rfl
@[simp] theorem State.sampleButtons_refv (x : Inputs) (s : State) : (s.sampleButtons x).refv = s.refv := rfl
@[simp] theorem State.sampleButtons_cfg (x : Inputs) (s : State) : (s.sampleButtons x).cfg = s.cfg := rfl
@[simp] theorem State.sampleButtons_inputs (x : Inputs) (s : State) : (s.sampleButtons x).inputs = s.inputs := rfl
@[simp] theorem State.sampleButtons_envTick (x : Inputs) (s : State) : (s.sampleButtons x).envTick = s.envTick := rfl

/-! ### tickTimer -/

@[simp] theorem State.tickTimer_fb (s : State) : (s.tickTimer).fb = s.fb := rfl
@[simp] theorem State.tickTimer_txs (s : State) : (s.tickTimer).txs = s.txs := rfl
@[simp] theorem State.tickTimer_pix (s : State) : (s.tickTimer).pix = s.pix := rfl
@[simp] theorem State.tickTimer_bitidx (s : State) : (s.tickTimer).bitidx = s.bitidx := rfl
@[simp] theorem State.tickTimer_ph (s : State) : (s.tickTimer).ph = s.ph := rfl
@[simp] theorem State.tickTimer_gapcnt (s : State) : (s.tickTimer).gapcnt = s.gapcnt := rfl
@[simp] theorem State.tickTimer_rspv (s : State) : (s.tickTimer).rspv = s.rspv := rfl
@[simp] theorem State.tickTimer_rspc (s : State) : (s.tickTimer).rspc = s.rspc := rfl
@[simp] theorem State.tickTimer_echov (s : State) : (s.tickTimer).echov = s.echov := rfl
@[simp] theorem State.tickTimer_echoc (s : State) : (s.tickTimer).echoc = s.echoc := rfl
@[simp] theorem State.tickTimer_btnA (s : State) : (s.tickTimer).btnA = s.btnA := rfl
@[simp] theorem State.tickTimer_btnB (s : State) : (s.tickTimer).btnB = s.btnB := rfl
@[simp] theorem State.tickTimer_now (s : State) : (s.tickTimer).now = tickNow s.cfg s.pre s.now := rfl
@[simp] theorem State.tickTimer_pre (s : State) : (s.tickTimer).pre = tickPre s.cfg s.pre := rfl
@[simp] theorem State.tickTimer_refv (s : State) : (s.tickTimer).refv = s.refv := rfl
@[simp] theorem State.tickTimer_cfg (s : State) : (s.tickTimer).cfg = s.cfg := rfl
@[simp] theorem State.tickTimer_inputs (s : State) : (s.tickTimer).inputs = s.inputs := rfl
@[simp] theorem State.tickTimer_envTick (s : State) : (s.tickTimer).envTick = s.envTick := rfl

/-! ### nextInputs -/

@[simp] theorem State.nextInputs_fb (s : State) : (s.nextInputs).fb = s.fb := rfl
@[simp] theorem State.nextInputs_txs (s : State) : (s.nextInputs).txs = s.txs := rfl
@[simp] theorem State.nextInputs_pix (s : State) : (s.nextInputs).pix = s.pix := rfl
@[simp] theorem State.nextInputs_bitidx (s : State) : (s.nextInputs).bitidx = s.bitidx := rfl
@[simp] theorem State.nextInputs_ph (s : State) : (s.nextInputs).ph = s.ph := rfl
@[simp] theorem State.nextInputs_gapcnt (s : State) : (s.nextInputs).gapcnt = s.gapcnt := rfl
@[simp] theorem State.nextInputs_rspv (s : State) : (s.nextInputs).rspv = s.rspv := rfl
@[simp] theorem State.nextInputs_rspc (s : State) : (s.nextInputs).rspc = s.rspc := rfl
@[simp] theorem State.nextInputs_echov (s : State) : (s.nextInputs).echov = s.echov := rfl
@[simp] theorem State.nextInputs_echoc (s : State) : (s.nextInputs).echoc = s.echoc := rfl
@[simp] theorem State.nextInputs_btnA (s : State) : (s.nextInputs).btnA = s.btnA := rfl
@[simp] theorem State.nextInputs_btnB (s : State) : (s.nextInputs).btnB = s.btnB := rfl
@[simp] theorem State.nextInputs_now (s : State) : (s.nextInputs).now = s.now := rfl
@[simp] theorem State.nextInputs_pre (s : State) : (s.nextInputs).pre = s.pre := rfl
@[simp] theorem State.nextInputs_refv (s : State) : (s.nextInputs).refv = s.refv := rfl
@[simp] theorem State.nextInputs_cfg (s : State) : (s.nextInputs).cfg = s.cfg := rfl
@[simp] theorem State.nextInputs_inputs (s : State) : (s.nextInputs).inputs = s.inputs.tail := rfl
@[simp] theorem State.nextInputs_envTick (s : State) : (s.nextInputs).envTick = s.envTick + 1 := rfl

/-! ### resetRegisters -/

@[simp] theorem State.resetRegisters_fb (s : State) : (s.resetRegisters).fb = State.reset.fb := rfl
@[simp] theorem State.resetRegisters_txs (s : State) : (s.resetRegisters).txs = State.reset.txs := rfl
@[simp] theorem State.resetRegisters_pix (s : State) : (s.resetRegisters).pix = State.reset.pix := rfl
@[simp] theorem State.resetRegisters_bitidx (s : State) : (s.resetRegisters).bitidx = State.reset.bitidx := rfl
@[simp] theorem State.resetRegisters_ph (s : State) : (s.resetRegisters).ph = State.reset.ph := rfl
@[simp] theorem State.resetRegisters_gapcnt (s : State) : (s.resetRegisters).gapcnt = State.reset.gapcnt := rfl
@[simp] theorem State.resetRegisters_rspv (s : State) : (s.resetRegisters).rspv = State.reset.rspv := rfl
@[simp] theorem State.resetRegisters_rspc (s : State) : (s.resetRegisters).rspc = State.reset.rspc := rfl
@[simp] theorem State.resetRegisters_echov (s : State) : (s.resetRegisters).echov = State.reset.echov := rfl
@[simp] theorem State.resetRegisters_echoc (s : State) : (s.resetRegisters).echoc = State.reset.echoc := rfl
@[simp] theorem State.resetRegisters_btnA (s : State) : (s.resetRegisters).btnA = State.reset.btnA := rfl
@[simp] theorem State.resetRegisters_btnB (s : State) : (s.resetRegisters).btnB = State.reset.btnB := rfl
@[simp] theorem State.resetRegisters_now (s : State) : (s.resetRegisters).now = State.reset.now := rfl
@[simp] theorem State.resetRegisters_pre (s : State) : (s.resetRegisters).pre = State.reset.pre := rfl
@[simp] theorem State.resetRegisters_refv (s : State) : (s.resetRegisters).refv = State.reset.refv := rfl
@[simp] theorem State.resetRegisters_cfg (s : State) : (s.resetRegisters).cfg = s.cfg := rfl
@[simp] theorem State.resetRegisters_inputs (s : State) : (s.resetRegisters).inputs = s.inputs := rfl
@[simp] theorem State.resetRegisters_envTick (s : State) : (s.resetRegisters).envTick = s.envTick := rfl

@[simp] theorem State.setBtn_btnA_of_a (b : ButtonRegs) (s : State) : (s.setBtn .a b).btnA = b := rfl
@[simp] theorem State.setBtn_btnB_of_a (b : ButtonRegs) (s : State) : (s.setBtn .a b).btnB = s.btnB := rfl
@[simp] theorem State.setBtn_btnA_of_b (b : ButtonRegs) (s : State) : (s.setBtn .b b).btnA = s.btnA := rfl
@[simp] theorem State.setBtn_btnB_of_b (b : ButtonRegs) (s : State) : (s.setBtn .b b).btnB = b := rfl

/-! ### The registers of one button -/

@[simp] theorem State.btn_a (s : State) : s.btn .a = s.btnA := rfl
@[simp] theorem State.btn_b (s : State) : s.btn .b = s.btnB := rfl
@[simp] theorem ButtonRegs.accept_level (b : ButtonRegs) (now : Nat) : (b.accept now).level = !b.level := rfl
@[simp] theorem ButtonRegs.accept_last (b : ButtonRegs) (now : Nat) : (b.accept now).last = now := rfl
@[simp] theorem ButtonRegs.accept_seen (b : ButtonRegs) (now : Nat) : (b.accept now).seen = true := rfl
@[simp] theorem ButtonRegs.accept_s1 (b : ButtonRegs) (now : Nat) : (b.accept now).s1 = b.s1 := rfl
@[simp] theorem ButtonRegs.accept_s2 (b : ButtonRegs) (now : Nat) : (b.accept now).s2 = b.s2 := rfl
@[simp] theorem ButtonRegs.accept_s3 (b : ButtonRegs) (now : Nat) : (b.accept now).s3 = b.s3 := rfl
@[simp] theorem ButtonRegs.sample_level (b : ButtonRegs) (x : Bool) : (b.sample x).level = b.level := rfl
@[simp] theorem ButtonRegs.sample_last (b : ButtonRegs) (x : Bool) : (b.sample x).last = b.last := rfl
@[simp] theorem ButtonRegs.sample_seen (b : ButtonRegs) (x : Bool) : (b.sample x).seen = b.seen := rfl
@[simp] theorem ButtonRegs.sample_s1 (b : ButtonRegs) (x : Bool) : (b.sample x).s1 = x := rfl
@[simp] theorem ButtonRegs.sample_s2 (b : ButtonRegs) (x : Bool) : (b.sample x).s2 = b.s1 := rfl
@[simp] theorem ButtonRegs.sample_s3 (b : ButtonRegs) (x : Bool) : (b.sample x).s3 = b.s2 := rfl

end Sys2Proof.Machine
end

