-- ==== Sys2Proof/Laws/Ops.lean ====
section
/-! SUPPORT. What the shared operations can do, said once: the framebuffer (read after write), the glyph image, the guard, the
sequencer, and each operation's outcome. -/

namespace Sys2Proof.Machine

open Sys2Proof

/-! ### The parameters -/

theorem frameCycles_eq (c : Params) : c.frameCycles = 600 * c.bitCycles := rfl

theorem busyCycles_eq (c : Params) : c.busyCycles = 600 * c.bitCycles + c.gapCycles := rfl

/-- Whatever R9 allows, the bit cell, the gap and the microsecond last at least one cycle each. -/
theorem allowed_positive (c : Params) (h : c.Allowed) : c.Positive := by
  unfold Params.Allowed Params.Lasts Params.LastsAtLeast Config.dist at h
  unfold Params.Positive
  simp only [Config.tBitNom, Config.tGapMin] at h
  obtain ⟨hc, hb, -, -, -, -, hg, hu, -⟩ := h
  refine ⟨?_, ?_, ?_⟩ <;> omega

/-- `latchCycles` is the least number of cycles that lasts `T_GAP_MIN`. -/
theorem latchCycles_le_iff (c : Params) (n : Nat) : c.latchCycles ≤ n ↔ c.LastsAtLeast n 80000 := by
  unfold Params.latchCycles Params.LastsAtLeast
  omega

/-! ### The framebuffer -/

theorem readCell_of_lt (fb : Framebuffer) (i : Nat) (h : i < 25) : readCell fb i = fb[i] := by
  simp [readCell, h]

theorem readCell_of_ge (fb : Framebuffer) (i : Nat) (h : 25 ≤ i) : readCell fb i = zeroPixel := by
  simp [readCell, h]

/-- Every cell after a write: the written one, and all the others as before. -/
theorem writeCell_getElem (fb : Framebuffer) (i : Nat) (p : Pixel) (j : Nat) (h : j < 25) :
    (writeCell fb i p)[j] = if i = j then p else fb[j] := by
  simp [writeCell, Vector.getElem_setIfInBounds]

theorem readCell_writeCell (fb : Framebuffer) (i : Nat) (p : Pixel) (j : Nat) (h : j < 25) :
    readCell (writeCell fb i p) j = if i = j then p else readCell fb j := by
  rw [readCell_of_lt _ _ h, readCell_of_lt _ _ h, writeCell_getElem fb i p j h]

theorem blankFramebuffer_getElem (j : Nat) (h : j < 25) : blankFramebuffer[j] = zeroPixel := by
  simp [blankFramebuffer]

theorem readCell_blankFramebuffer (j : Nat) : readCell blankFramebuffer j = zeroPixel := by
  by_cases h : j < 25
  · rw [readCell_of_lt _ _ h, blankFramebuffer_getElem j h]
  · exact readCell_of_ge _ _ (by omega)

theorem Glyph.image_getElem (g : Glyph) (j : Nat) (h : j < 25) :
    g.image[j] = if g.mask.getLsbD j then g.color else zeroPixel := by
  unfold Glyph.image
  rw [Vector.getElem_ofFn]

/-! ### The guard and the handler -/

theorem ButtonRegs.pass_iff (b : ButtonRegs) (c : Params) (now : Nat) :
    b.pass c now = true ↔ b.seen = false ∨ 200000 < ((now : Int) - b.last) % (2 ^ c.timeBits : Nat) := by
  rw [ButtonRegs.pass, Bool.or_eq_true, Bool.not_eq_true', decide_eq_true_eq, ButtonRegs.elapsed, Int.lt_toNat]
  rfl

/-- Where the timer has not wrapped since the accepted edge, the elapsed time is the difference. -/
theorem ButtonRegs.elapsed_of_le (b : ButtonRegs) (c : Params) (now : Nat) (h : b.last ≤ now)
    (hn : now - b.last < 2 ^ c.timeBits) : b.elapsed c now = now - b.last := by
  unfold ButtonRegs.elapsed
  rw [← Nat.cast_sub h, ← Int.natCast_emod, Int.toNat_natCast, Nat.mod_eq_of_lt hn]

/-- Where it has wrapped once, the elapsed time is the difference across the wrap. -/
theorem ButtonRegs.elapsed_of_gt (b : ButtonRegs) (c : Params) (now : Nat) (h : now < b.last)
    (hl : b.last ≤ now + 2 ^ c.timeBits) : b.elapsed c now = now + 2 ^ c.timeBits - b.last := by
  unfold ButtonRegs.elapsed
  have he : (now : Int) - b.last + (2 ^ c.timeBits : Nat) = ((now + 2 ^ c.timeBits - b.last : Nat) : Int) := by
    rw [Nat.cast_sub hl, Nat.cast_add, sub_add_eq_add_sub]
  rw [← Int.add_emod_right, he, ← Int.natCast_emod, Int.toNat_natCast, Nat.mod_eq_of_lt (by omega)]

/-- The handler either performs all the updates of an accepted edge, or nothing. -/
theorem State.debounce_cases (k : ButtonId) (s : State) :
    ((s.btn k).pass s.cfg s.now = true ∧ s.debounce k = (s.setBtn k ((s.btn k).accept s.now)).emitRefresh) ∨
    ((s.btn k).pass s.cfg s.now = false ∧ s.debounce k = s) := by
  unfold State.debounce
  split
  · next h => exact .inl ⟨h, rfl⟩
  · next h => exact .inr ⟨by simpa using h, rfl⟩

/-! ### The timer -/

theorem tickPre_of_lt (c : Params) (pre : Nat) (h : pre < c.usCycles - 1) : tickPre c pre = pre + 1 := if_pos h

theorem tickPre_of_ge (c : Params) (pre : Nat) (h : c.usCycles - 1 ≤ pre) : tickPre c pre = 0 :=
  if_neg (Nat.not_lt_of_le h)

theorem tickNow_of_lt (c : Params) (pre : Nat) (now : Nat) (h : pre < c.usCycles - 1) : tickNow c pre now = now := if_pos h

theorem tickNow_of_ge (c : Params) (pre : Nat) (now : Nat) (h : c.usCycles - 1 ≤ pre) :
    tickNow c pre now = (now + 1) % 2 ^ c.timeBits := if_neg (Nat.not_lt_of_le h)

/-- The prescaler stays below `US_CYCLES`. -/
theorem tickPre_le (c : Params) (pre : Nat) : tickPre c pre ≤ c.usCycles - 1 := by
  unfold tickPre
  split <;> omega

/-- The timer stays a value of `TIME_BITS` bits. -/
theorem tickNow_lt (c : Params) (pre : Nat) (now : Nat) (h : now < 2 ^ c.timeBits) :
    tickNow c pre now < 2 ^ c.timeBits := by
  unfold tickNow
  split
  · exact h
  · exact Nat.mod_lt _ (Nat.two_pow_pos _)

/-! ### The sequencer -/

/-- Everything stepping in SHIFT can do. -/
theorem State.stepShift_cases (s : State) :
    (s.ph < s.cfg.bitCycles - 1 ∧ s.stepShift = { s with ph := s.ph + 1 }) ∨
    (s.cfg.bitCycles - 1 ≤ s.ph ∧ 0 < s.bitidx.toNat ∧ s.stepShift = { s with ph := 0, bitidx := s.bitidx - 1 }) ∨
    (s.cfg.bitCycles - 1 ≤ s.ph ∧ s.bitidx.toNat = 0 ∧ s.pix.toNat < 24 ∧
      s.stepShift = { s with ph := 0, bitidx := 23, pix := s.pix + 1 }) ∨
    (s.cfg.bitCycles - 1 ≤ s.ph ∧ s.bitidx.toNat = 0 ∧ 24 ≤ s.pix.toNat ∧
      s.stepShift = { s with ph := 0, bitidx := 23, pix := 0, txs := .gap, gapcnt := 0 }) := by
  unfold State.stepShift
  split
  · next h => exact .inl ⟨by omega, rfl⟩
  · next h1 =>
    split
    · next h2 => exact .inr (.inl ⟨by omega, h2, rfl⟩)
    · next h2 =>
      split
      · next h3 => exact .inr (.inr (.inl ⟨by omega, by omega, h3, rfl⟩))
      · next h3 => exact .inr (.inr (.inr ⟨by omega, by omega, by omega, rfl⟩))

/-- Everything stepping in GAP can do. -/
theorem State.stepGap_cases (s : State) :
    (s.gapcnt < s.cfg.gapCycles - 1 ∧ s.stepGap = { s with gapcnt := s.gapcnt + 1 }) ∨
    (s.cfg.gapCycles - 1 ≤ s.gapcnt ∧ s.stepGap = { s with gapcnt := 0, txs := .idle, rspv := true, rspc := 0 }) := by
  unfold State.stepGap
  split
  · next h => exact .inl ⟨by omega, rfl⟩
  · next h => exact .inr ⟨by omega, rfl⟩

/-! ### The outcomes of the operations -/

theorem exec_set_of_lt (idx : BitVec 5) (pix : Pixel) (s : State) (h : idx.toNat < 25) :
    exec (.set idx pix) s = .next ((s.writeFb (writeCell s.fb idx.toNat pix)).respond .ok) :=
  if_neg (Nat.not_le_of_lt h)

theorem exec_set_of_ge (idx : BitVec 5) (pix : Pixel) (s : State) (h : 25 ≤ idx.toNat) :
    exec (.set idx pix) s = .next (s.raiseError .outOfRange) :=
  if_pos h

theorem lookupGlyph_of_lt (d : Nat) (h : d < 10) : lookupGlyph d = .ok (glyphRom ⟨d, h⟩) := by
  simp [lookupGlyph, h]

theorem lookupGlyph_of_ge (d : Nat) (h : 10 ≤ d) : lookupGlyph d = .error .invalidDigit := by
  simp [lookupGlyph, Nat.not_lt_of_le h]

theorem exec_glyph_of_lt (d : Byte) (s : State) (h : d.toNat < 10) :
    exec (.glyph d) s = .next ((s.writeFb (glyphRom ⟨d.toNat, h⟩).image).respond .ok) := by
  rw [exec, execGlyph, lookupGlyph_of_lt _ h]

theorem exec_glyph_of_ge (d : Byte) (s : State) (h : 10 ≤ d.toNat) :
    exec (.glyph d) s = .next (s.raiseError .invalidDigit) := by
  rw [exec, execGlyph, lookupGlyph_of_ge _ h]

theorem byteImage_of_digit (c : Byte) (h : 0x30 ≤ c.toNat ∧ c.toNat ≤ 0x39) :
    byteImage c = (glyphRom ⟨c.toNat - 0x30, by omega⟩).image := by
  simp [byteImage, byteDigit, h]

theorem byteImage_of_not_digit (c : Byte) (h : ¬(0x30 ≤ c.toNat ∧ c.toNat ≤ 0x39)) : byteImage c = blankFramebuffer := by
  rw [byteImage, byteDigit, dif_neg h]

/-- Every operation answers a next state, in every state. -/
theorem exec_next (i : Instr) (s : State) : ∃ t, exec i s = .next t := by
  cases i with
  | set idx pix => simp only [exec, execSet]; split <;> exact ⟨_, rfl⟩
  | glyph d => simp only [exec, execGlyph]; split <;> exact ⟨_, rfl⟩
  | clear => exact ⟨_, rfl⟩
  | flush => exact ⟨_, rfl⟩
  | byte c => exact ⟨_, rfl⟩
  | reserved0 => exact ⟨_, rfl⟩
  | reserved6 => exact ⟨_, rfl⟩
  | reserved7 => exact ⟨_, rfl⟩
  | edgeA => exact ⟨_, rfl⟩
  | edgeB => exact ⟨_, rfl⟩

/-- The parts of the state no command touches. -/
def SameOutsideCommands (s t : State) : Prop :=
  t.btnA = s.btnA ∧ t.btnB = s.btnB ∧ t.now = s.now ∧ t.pre = s.pre ∧ t.refv = s.refv ∧
  t.cfg = s.cfg ∧ t.inputs = s.inputs ∧ t.envTick = s.envTick ∧ t.gapcnt = s.gapcnt

/-- A command changes only the framebuffer, the start of the sequencer, the response and the echo; never Unit D. -/
theorem exec_command_frame (i : Instr) (s t : State) (hi : i.isCommand = true) (h : exec i s = .next t) :
    SameOutsideCommands s t := by
  cases i with
  | set idx pix =>
    rcases Nat.lt_or_ge idx.toNat 25 with hx | hx
    · simp [← Host.Outcome.next.inj ((exec_set_of_lt idx pix s hx).symm.trans h), SameOutsideCommands]
    · simp [← Host.Outcome.next.inj ((exec_set_of_ge idx pix s hx).symm.trans h), SameOutsideCommands]
  | glyph d =>
    rcases Nat.lt_or_ge d.toNat 10 with hx | hx
    · simp [← Host.Outcome.next.inj ((exec_glyph_of_lt d s hx).symm.trans h), SameOutsideCommands]
    · simp [← Host.Outcome.next.inj ((exec_glyph_of_ge d s hx).symm.trans h), SameOutsideCommands]
  | byte c =>
    have hs : exec (.byte c) s = .next ((s.emitEcho c).writeFb (byteImage c)).startTx := rfl
    simp [← Host.Outcome.next.inj (hs.symm.trans h), SameOutsideCommands]
  | clear =>
    have hs : exec .clear s = .next ((s.writeFb blankFramebuffer).respond .ok) := rfl
    simp [← Host.Outcome.next.inj (hs.symm.trans h), SameOutsideCommands]
  | flush => cases h; simp [SameOutsideCommands]
  | reserved0 => cases h; simp [SameOutsideCommands]
  | reserved6 => cases h; simp [SameOutsideCommands]
  | reserved7 => cases h; simp [SameOutsideCommands]
  | edgeA => simp [Instr.isCommand] at hi
  | edgeB => simp [Instr.isCommand] at hi

/-! ### Sequencing -/

@[simp] theorem andThen_next (s : State) (f : State → Host.Outcome State Fault Refusal) :
    andThen (.next s) f = f s := rfl

/-- Where a sequence answers a next state, both its parts did. -/
theorem andThen_eq_next (o : Host.Outcome State Fault Refusal) (f : State → Host.Outcome State Fault Refusal) (t : State)
    (h : andThen o f = .next t) : ∃ s, o = .next s ∧ f s = .next t := by
  cases o with
  | next s => exact ⟨s, rfl, h⟩
  | fault r => cases h
  | refused r => cases h

end Sys2Proof.Machine
end

