-- ==== Sys2Proof/Laws/PerInstr.lean ====
section
/-! SUPPORT. The family of lemmas with one member per operation: the operation's canonical selector matches its row of
spec/opcode_table.json, in `match`, `mask` and width. -/

namespace Sys2Proof

/-- The `match` and `mask` of an operation's row in spec/opcode_table.json: 32 bits of a command word, or the two bits `S3`,
`S2` of an event (R103, R110). -/
def tableRow : Instr → BitVec 32 × BitVec 32
  | .set _ _ => (0x20000000#32, 0xE0000000#32)
  | .clear => (0x40000000#32, 0xE0000000#32)
  | .flush => (0x60000000#32, 0xE0000000#32)
  | .glyph _ => (0x80000000#32, 0xE0000000#32)
  | .byte _ => (0xA0000000#32, 0xE0000000#32)
  | .reserved0 => (0x00000000#32, 0xE0000000#32)
  | .reserved6 => (0xC0000000#32, 0xE0000000#32)
  | .reserved7 => (0xE0000000#32, 0xE0000000#32)
  | .edgeA => (0x2#32, 0x3#32)
  | .edgeB => (0x2#32, 0x3#32)

/-- The bits of a selector as the table numbers them. -/
def selectorBits : Selector → BitVec 32
  | .word w => w
  | .flops _ s3 s2 => (BitVec.ofBool s3 ++ BitVec.ofBool s2).setWidth 32

/-- The canonical selector matches the operation's row. -/
def Laws.MatchesRow.Statement (i : Instr) : Prop :=
  selectorBits (encode i) &&& (tableRow i).2 = (tableRow i).1

/-- A word under the opcode mask is its `op` field. -/
theorem commandWord_and_mask (op : BitVec 3) (low : BitVec 29) :
    commandWord op low &&& 0xE0000000#32 = (op ++ 0#29 : BitVec 32) := by
  have h : (0xE0000000#32) = (7#3 ++ 0#29 : BitVec 32) := by decide
  have h7 : op &&& 7#3 = op := by revert op; decide
  rw [h, commandWord, BitVec.and_append, h7, BitVec.and_zero]

namespace Laws.MatchesRow

theorem set (idx : BitVec 5) (pix : Pixel) : Statement (.set idx pix) := commandWord_and_mask 1 _
theorem clear : Statement .clear := commandWord_and_mask 2 _
theorem flush : Statement .flush := commandWord_and_mask 3 _
theorem glyph (d : Byte) : Statement (.glyph d) := commandWord_and_mask 4 _
theorem byte (c : Byte) : Statement (.byte c) := commandWord_and_mask 5 _
theorem reserved0 : Statement .reserved0 := commandWord_and_mask 0 _
theorem reserved6 : Statement .reserved6 := commandWord_and_mask 6 _
theorem reserved7 : Statement .reserved7 := commandWord_and_mask 7 _
theorem edgeA : Statement .edgeA := by simp only [Statement]; decide
theorem edgeB : Statement .edgeB := by simp only [Statement]; decide

end Laws.MatchesRow

end Sys2Proof
end

