-- ==== Sys2Proof/Laws/Step.lean ====
section
/-! SUPPORT. What one step can do, said once; how the inputs of a run follow from those of its first state; and the runs that
`stateAfter` makes. -/

namespace Sys2Proof.Machine

open Sys2Proof

/-- The event phase of a button performs its handler exactly when its edge is detected. -/
theorem eventPhase_eq (k : ButtonId) (s : State) :
    eventPhase k s = .next (if (s.btn k).fall then s.debounce k else s) := by
  simp only [eventPhase, decode]
  rcases decodeEvent_cases k (s.btn k).s3 (s.btn k).s2 with ⟨h3, h2, hd⟩ | ⟨h, hd⟩
  · have hf : (s.btn k).fall = true := by simp [ButtonRegs.fall, h3, h2]
    rw [hd, if_pos hf]
    cases k <;> rfl
  · have hf : (s.btn k).fall = false := by rcases h with h | h <;> simp [ButtonRegs.fall, h]
    rw [hd]
    simp [hf]

/-- Both event phases of a cycle, A then B. -/
def eventsDone (s : State) : State :=
  let u := if s.btnA.fall then s.debounce .a else s
  if u.btnB.fall then u.debounce .b else u

/-- Everything the event phases do: each accepted edge updates its own button, and either asks for a refresh. -/
theorem eventsDone_eq (s : State) : eventsDone s =
    { s with
      btnA := if s.btnA.acc s.cfg s.now then s.btnA.accept s.now else s.btnA
      btnB := if s.btnB.acc s.cfg s.now then s.btnB.accept s.now else s.btnB
      refv := s.refv || s.btnA.acc s.cfg s.now || s.btnB.acc s.cfg s.now } := by
  have hA : (if s.btnA.fall then s.debounce .a else s) =
      { s with
        btnA := if s.btnA.acc s.cfg s.now then s.btnA.accept s.now else s.btnA
        refv := s.refv || s.btnA.acc s.cfg s.now } := by
    cases hf : s.btnA.fall <;> cases hp : s.btnA.pass s.cfg s.now <;>
      simp [ButtonRegs.acc, State.debounce, hf, hp, State.setBtn, State.emitRefresh]
  unfold eventsDone
  rw [hA]
  cases hf : s.btnB.fall <;> cases hp : s.btnB.pass s.cfg s.now <;>
    simp [ButtonRegs.acc, State.debounce, hf, hp, State.setBtn, State.emitRefresh]

/-- A cycle without reset: Unit M's phase, then the events, then the clock. -/
theorem runCycle_eq (x : Inputs) (s u : State) (h : unitMPhase x s.clearPulses = .next u) :
    runCycle x s = .next (clockPhase x (eventsDone u)) := by
  simp only [runCycle, h, andThen_next, eventPhase_eq]
  rfl

/-- Everything one step can do: reset, a cycle with an accepted command, or a cycle with none. -/
theorem step_cases (s t : State) (h : step s = .next t) :
    (s.input.rst = true ∧ t = s.resetRegisters.nextInputs) ∨
    (s.input.rst = false ∧ s.input.cmdValid = true ∧ s.txs = .idle ∧
      ∃ u, exec (decodeCommand s.input.cmdData) s.clearPulses = .next u ∧ t = clockPhase s.input (eventsDone u)) ∨
    (s.input.rst = false ∧ (s.input.cmdValid = false ∨ s.txs ≠ .idle) ∧
      t = clockPhase s.input (eventsDone s.clearPulses.stepSequencer)) := by
  unfold step cycle at h
  split at h
  · next hr => exact .inl ⟨hr, by cases h; rfl⟩
  · next hr =>
    have hr : s.input.rst = false := by simpa using hr
    by_cases ha : s.clearPulses.accepts s.input = true
    · have hv : s.input.cmdValid = true ∧ s.txs = .idle := by
        simpa [State.accepts, State.ready, hr] using ha
      obtain ⟨u, hu⟩ := exec_next (decodeCommand s.input.cmdData) s.clearPulses
      rw [runCycle_eq s.input s u (by simp [unitMPhase, ha, hu])] at h
      exact .inr (.inl ⟨hr, hv.1, hv.2, u, hu, by cases h; rfl⟩)
    · have hv : s.input.cmdValid = false ∨ s.txs ≠ .idle := by
        simp [State.accepts, State.ready, hr] at ha
        cases hc : s.input.cmdValid
        · exact .inl rfl
        · exact .inr (ha hc)
      rw [runCycle_eq s.input s _ (by simp [unitMPhase, ha]; rfl)] at h
      exact .inr (.inr ⟨hr, hv, by cases h; rfl⟩)

/-! ### Inputs along a run -/

/-- The inputs of a state one cycle on. -/
theorem inputAt_of_tail (s t : State) (n : Nat) (hi : t.inputs = s.inputs.tail) (he : t.envTick = s.envTick + 1) :
    t.inputAt n = s.inputAt (n + 1) := by
  unfold State.inputAt
  rw [hi, he, List.getElem?_tail]
  split
  · rfl
  · rw [Nat.add_assoc, Nat.add_comm 1 n]

/-! ### Runs -/

theorem stateAfter_zero (s : State) : stateAfter 0 s = some s := rfl

theorem stateAfter_succ_of_step (n : Nat) (s t : State) (h : step s = .next t) :
    stateAfter (n + 1) s = stateAfter n t := by
  simp [stateAfter, h]

/-- A run may be cut at any cycle. -/
theorem stateAfter_add (m n : Nat) (s t : State) (h : stateAfter m s = some t) :
    stateAfter (m + n) s = stateAfter n t := by
  induction m generalizing s with
  | zero => simp [stateAfter] at h; subst h; rw [Nat.zero_add]
  | succ m ih =>
    rw [Nat.succ_add]
    simp only [stateAfter] at h ⊢
    cases hs : step s with
    | next u => simp only [hs] at h ⊢; exact ih u h
    | fault r => simp [hs] at h
    | refused r => simp [hs] at h

/-- Where a run without stopping has a next step, it is one cycle longer. -/
theorem stateAfter_step (n : Nat) (s t u : State) (h : stateAfter n s = some t) (hs : step t = .next u) :
    stateAfter (n + 1) s = some u := by
  rw [stateAfter_add n 1 s t h, stateAfter_succ_of_step 0 t u hs, stateAfter_zero]

/-- `stateAfter` is the host's run of the machine. -/
theorem stateAfter_eq_run (n : Nat) (s t : State) (h : stateAfter n s = some t) :
    Host.Core.run Sys2Proof.core n s = .next t := by
  induction n generalizing s with
  | zero => simp [stateAfter] at h; subst h; rfl
  | succ n ih =>
    simp only [stateAfter] at h
    cases hs : step s with
    | next u =>
      simp only [hs] at h
      have hc : Sys2Proof.core.step s = .next u := hs
      simp only [Host.Core.run, hc]
      exact ih u h
    | fault r => simp [hs] at h
    | refused r => simp [hs] at h

theorem noReset_of_le (m n : Nat) (s : State) (hmn : m ≤ n) (h : NoReset n s) : NoReset m s :=
  fun k hk => h k (Nat.lt_of_lt_of_le hk hmn)

theorem noReset_input (n : Nat) (s : State) (h : NoReset (n + 1) s) : s.input.rst = false := h 0 (Nat.succ_pos n)

end Sys2Proof.Machine
end

