-- ==== Sys2Proof/Tests/Slice0.lean ====
section
/-! SUPPORT. Tests of one word or one step each, their expected values taken from 95_test_vectors.md (the vector's name is in the
comment) or worked out by hand from the rule named, and for every statement with hypotheses a witness that meets them. -/

namespace Sys2Proof.Tests

open Sys2Proof Sys2Proof.Machine

/-! ### Helpers -/

/-- The state an outcome carries; a stop gives the fallback. -/
def reached (o : Host.Outcome State Fault Refusal) (s : State) : State :=
  match o with
  | .next t => t
  | .fault _ => s
  | .refused _ => s

/-- The state after one operation. -/
def ran (i : Instr) (s : State) : State := reached (exec i s) s

/-- The state after one cycle. -/
def stepped (s : State) : State := reached (step s) s

/-- The reset state with listed inputs. -/
def fresh (xs : List Inputs) : State := { State.reset with inputs := xs }

/-- The host presents a word, and the buttons are released. -/
def presenting (w : CmdWord) : Inputs := { Inputs.quiet with cmdValid := true, cmdData := w }

/-- A button's registers with the Button State (`LEVEL`, `LAST`, `SEEN`) of a vector, its pin released. -/
def button (level : Bool) (last : Nat) (seen : Bool) : ButtonRegs :=
  { level := level, last := last, seen := seen, s1 := true, s2 := true, s3 := true }

/-- The reset state at timer value `now` with the Button States of a vector. -/
def edgeState (now : Nat) (a b : ButtonRegs) : State := { fresh [] with now := now, btnA := a, btnB := b }

/-- A button whose edge is detected in the current cycle. -/
def falling (b : ButtonRegs) : ButtonRegs := { b with s3 := true, s2 := false }

/-- The default parameters meet R9's constraint column (R9, R153). -/
theorem defaults_allowed : Config.defaults.Allowed := by
  simp [Params.Allowed, Params.Lasts, Params.LastsAtLeast, Config.dist]

/-- The default bit cell, gap and microsecond have positive counts. -/
theorem defaults_positive : Config.defaults.Positive := by simp [Params.Positive]

/-! ### Ill-formed lines are refused (R110, R117, R118) -/

theorem test_wf_set_index : (Line.set 32 0).wellFormed = false ∧ (Line.set 32 0).words = none := by decide
theorem test_wf_set_pixel : (Line.set 0 0x1000000).wellFormed = false := by decide
theorem test_wf_set_channel : (Line.setGrb 0 256 0 0).wellFormed = false ∧ (Line.setGrb 0 0 256 0).wellFormed = false ∧
    (Line.setGrb 0 0 0 256).wellFormed = false ∧ (Line.setGrb 32 0 0 0).wellFormed = false := by decide
theorem test_wf_rgb_channel : (Line.setRgb 0 256 0 0).wellFormed = false ∧ (Line.setRgb 0 0 256 0).wellFormed = false ∧
    (Line.setRgb 0 0 0 256).wellFormed = false ∧ (Line.setRgb 32 0 0 0).wellFormed = false := by decide
theorem test_wf_digit : (Line.glyph 256).wellFormed = false ∧ (Line.showDigit 256).wellFormed = false := by decide
theorem test_wf_byte : (Line.byte 256).wellFormed = false := by decide
theorem test_wf_pixel_place : (Line.pixel 5 0 0).wellFormed = false ∧ (Line.pixel 0 5 0).wellFormed = false ∧
    (Line.pixel 0 0 0x1000000).wellFormed = false := by decide
theorem test_wf_edge_time : (Line.edge .a (2 ^ 64)).timeFits Config.defaults = false ∧
    (Line.edge .a (2 ^ 64 - 1)).timeFits Config.defaults = true := by decide
/-- An event operation has no command word (R110). -/
theorem test_wf_edges_are_no_commands : Instr.edgeA.isCommand = false ∧ Instr.edgeB.isCommand = false ∧
    encodeWord .edgeA = none ∧ (Line.edge .b 7).words = some [] := by decide
/-- V-ENC-16, V-ENC-17, V-ENC-5. -/
theorem test_assembler : (Line.setRgb 7 0x20 0x10 0x30).words = some [0x27102030#32] ∧
    (Line.pixel 2 2 0x0A141E).words = some [0x2C0A141E#32] ∧ (Line.set 31 0xABCDEF).words = some [0x3FABCDEF#32] := by decide

/-- R9: at 24 MHz, 30 cycles are 1 250 ns, 10 are 417 ns, 19 are 792 ns, 1 920 are 80 µs and 24 are 1 µs; such a machine is
allowed. -/
theorem test_params_24mhz :
    let c : Params := { clkHz := 24000000, bitCycles := 30, t0hCycles := 10, t1hCycles := 19, gapCycles := 1920, usCycles := 24,
                        timeBits := 18 }
    c.Allowed ∧ c.Positive ∧ c.latchCycles = 1920 ∧ c.busyCycles = 19920 := by
  simp [Params.Allowed, Params.Lasts, Params.LastsAtLeast, Params.Positive, Params.latchCycles, Params.busyCycles,
    Params.frameCycles, Config.dist]
/-- R9, U1: a gap of 2 200 cycles (110 µs) at 20 MHz, and a machine of 100 MHz whose counts are beyond the default widths. -/
theorem test_params_wide :
    ({ Config.defaults with gapCycles := 2200 } : Params).Allowed ∧
    ({ clkHz := 100000000, bitCycles := 125, t0hCycles := 40, t1hCycles := 80, gapCycles := 10000, usCycles := 100,
       timeBits := 128 } : Params).Allowed := by
  simp [Params.Allowed, Params.Lasts, Params.LastsAtLeast, Config.dist]
/-- R144: a gap of 2 200 cycles passes 2 047 and ends after 2 199; R142: a bit cell of 50 cycles passes 31. -/
theorem test_step_wide_counters :
    let c : Params := { Config.defaults with gapCycles := 2200, bitCycles := 50 }
    let s := { fresh [Inputs.quiet] with cfg := c, txs := .gap }
    (stepped { s with gapcnt := 2047 }).gapcnt = 2048 ∧ (stepped { s with gapcnt := 2047 }).txs = .gap ∧
    (stepped { s with gapcnt := 2199 }).txs = .idle ∧ (stepped { s with gapcnt := 2199 }).rspv = true ∧
    (stepped { s with txs := .shift, ph := 31 }).ph = 32 ∧ (stepped { s with txs := .shift, ph := 49 }).bitidx = 22#5 := by
  decide
/-- R9: `CLK_HZ` = 0 has no cycle time, so it is neither allowed nor does it conform (log entry 17). -/
theorem test_params_no_clock : ∀ b t0 t1 g u n : Nat,
    ¬(⟨0, b, t0, t1, g, u, n⟩ : Params).Allowed ∧ ¬(⟨0, b, t0, t1, g, u, n⟩ : Params).Conforms :=
  fun _ _ _ _ _ _ => ⟨fun h => Nat.lt_irrefl 0 h.1, fun h => Nat.lt_irrefl 0 h.1⟩
/-- R9: a bit period of 1 550 ns is not 1 250 ns; a gap of 79.95 µs is less than 80 µs; and 17 bits do not hold 200 000. -/
theorem test_params_refused :
    ¬({ Config.defaults with bitCycles := 31, t0hCycles := 11, t1hCycles := 19 } : Params).Allowed ∧
    ¬({ Config.defaults with gapCycles := 1599 } : Params).Allowed ∧ ¬({ Config.defaults with timeBits := 17 } : Params).Allowed := by
  simp [Params.Allowed, Params.Lasts, Params.LastsAtLeast, Config.dist]

/-! ### Words written out bit by bit from the encodings of R103 to R106 and R110, and what they decode to -/

/-- V-ENC-2: op 001, idx 00111, pix. -/
theorem test_decode_set :
    decodeTableWord 32 0b001_00111_000100000010000000110000 = some (.set 7#5 0x102030#24) := by decide
/-- V-DEC-11. -/
theorem test_decode_set_last : decodeTableWord 32 0x38123456 = some (.set 24#5 0x123456#24) := by decide
/-- V-DEC-7: the low 29 bits are ignored. -/
theorem test_decode_clear : decodeTableWord 32 0b010_00000000000000000000000000000 = some .clear ∧
    decodeTableWord 32 0x4ABCDEF0 = some .clear := by decide
/-- V-DEC-8. -/
theorem test_decode_flush : decodeTableWord 32 0b011_00000000000000000000000000000 = some .flush ∧
    decodeTableWord 32 0x7FFFFFFF = some .flush := by decide
/-- V-ENC-9, V-DEC-9. -/
theorem test_decode_glyph : decodeTableWord 32 0b100_000000000000000000000_00001001 = some (.glyph 9#8) ∧
    decodeTableWord 32 0x9FFFFF07 = some (.glyph 7#8) := by decide
/-- V-ENC-12, V-DEC-10. -/
theorem test_decode_byte : decodeTableWord 32 0b101_000000000000000000000_00110111 = some (.byte 0x37#8) ∧
    decodeTableWord 32 0xBFFFFF41 = some (.byte 0x41#8) := by decide
/-- V-DEC-1, V-DEC-2. -/
theorem test_decode_reserved0 : decodeTableWord 32 0 = some .reserved0 ∧
    decodeTableWord 32 0b000_11111111111111111111111111111 = some .reserved0 := by decide
/-- V-DEC-3, V-DEC-4. -/
theorem test_decode_reserved6 : decodeTableWord 32 0b110_00000000000000000000000000000 = some .reserved6 ∧
    decodeTableWord 32 0xDEADBEEF = some .reserved6 := by decide
/-- V-DEC-5, V-DEC-6. -/
theorem test_decode_reserved7 : decodeTableWord 32 0b111_00000000000000000000000000000 = some .reserved7 ∧
    decodeTableWord 32 0xFFFFFFFF = some .reserved7 := by decide
/-- R110: `S3[0] = 1`, `S2[0] = 0`. -/
theorem test_decode_edgeA : decode (.flops .a true false) = .ok .edgeA ∧ decodeTableWord 8 0b10 = some .edgeA :=
  ⟨rfl, by decide⟩
/-- R110: `S3[1] = 1`, `S2[1] = 0`; the byte carries button B's pair in bits 3:2 (log entry 3). -/
theorem test_decode_edgeB : decode (.flops .b true false) = .ok .edgeB ∧ decodeTableWord 8 0b1000 = some .edgeB :=
  ⟨rfl, by decide⟩
/-- R110, R116: no other pair selects an event, and no other width is a row's. -/
theorem test_decode_nothing : decodeTableWord 8 0b01 = none ∧ decodeTableWord 8 0b11 = none ∧ decodeTableWord 8 0 = none ∧
    decodeTableWord 16 0x2000 = none := by decide

/-! ### One operation each -/

/-- V-SET-7: one cell is written and the others are kept. -/
theorem test_set_keeps_others :
    let t := ran (.set 8 0x0000FF) { fresh [] with fb := writeCell blankFramebuffer 7 0x102030 }
    t.fb[7] = 0x102030#24 ∧ t.fb[8] = 0x0000FF#24 ∧ t.fb[9] = 0#24 ∧ t.rspv = true ∧ t.rspc = 0#3 := by decide
/-- V-SET-4: index 25 is out of range and writes nothing. -/
theorem test_set_out_of_range :
    let t := ran (.set 25 0x000001) { fresh [] with fb := Vector.replicate 25 0x010203 }
    t.fb = Vector.replicate 25 0x010203 ∧ t.rspv = true ∧ t.rspc = 1#3 := by decide
/-- V-CLR-2. -/
theorem test_clear :
    let t := ran .clear { fresh [] with fb := Vector.replicate 25 0xFFFFFF }
    t.fb[0] = 0#24 ∧ t.fb[24] = 0#24 ∧ t.rspv = true ∧ t.rspc = 0#3 := by decide
/-- R141: the transmission starts at (0, 23, 0), with no response yet. -/
theorem test_flush :
    let t := ran .flush (fresh [])
    t.txs = .shift ∧ t.pix = 0#5 ∧ t.bitidx = 23#5 ∧ t.ph = 0 ∧ t.rspv = false := by decide
/-- V-GLY-2, with the fixture's glyph 7: cells outside the mask become zero. -/
theorem test_glyph_image : let fb := Glyph.image { mask := 0x042110E, color := 0x080E27 }
    fb[0] = 0#24 ∧ fb[1] = 0x080E27#24 ∧ fb[12] = 0x080E27#24 ∧ fb[22] = 0x080E27#24 ∧ fb[23] = 0#24 := by
  simp [Glyph.image_getElem]
/-- V-GLY-5, V-GLY-7: 10 and the character code 0x37 are no digits for GLYPH. -/
theorem test_glyph_invalid : (ran (.glyph 10) (fresh [])).rspc = 2#3 ∧ (ran (.glyph 0x37) (fresh [])).rspc = 2#3 := by decide
/-- V-BYT-6: 0x3A is no digit; every cell becomes zero, the byte is echoed and the transmission starts. -/
theorem test_byte_no_digit :
    let t := ran (.byte 0x3A) { fresh [] with fb := Vector.replicate 25 0x010203 }
    t.fb[0] = 0#24 ∧ t.fb[24] = 0#24 ∧ t.echov = true ∧ t.echoc = 0x3A#8 ∧ t.txs = .shift ∧ t.rspv = false := by decide
/-- V-BYT-1, V-BYT-5, V-BYT-9: which bytes are digits. -/
theorem test_byte_digit : byteDigit 0x37 = some 7 ∧ byteDigit 0x30 = some 0 ∧ byteDigit 0x39 = some 9 ∧
    byteDigit 0x2F = none ∧ byteDigit 0x07 = none := by decide
/-- V-RSV-1. -/
theorem test_reserved0 : (ran .reserved0 (fresh [])).rspc = 4#3 := by decide
/-- V-RSV-2. -/
theorem test_reserved6 : (ran .reserved6 (fresh [])).rspc = 4#3 := by decide
/-- V-RSV-3. -/
theorem test_reserved7 : (ran .reserved7 (fresh [])).rspc = 4#3 := by decide
/-- V-EDGE-5 and V-EDGE-4: 200 001 is accepted, 200 000 is rejected. -/
theorem test_edgeA_guard :
    let t := ran .edgeA (edgeState 200001 (button true 0 true) ButtonRegs.reset)
    let u := ran .edgeA (edgeState 200000 (button true 0 true) ButtonRegs.reset)
    t.btnA = button false 200001 true ∧ t.refv = true ∧ u.btnA = button true 0 true ∧ u.refv = false := by decide
/-- V-EDGE-15 and V-EDGE-14: the guard across a wrap of the timer. -/
theorem test_edgeA_wrap :
    let b := button true (2 ^ 64 - 10) true
    (ran .edgeA (edgeState 199991 b ButtonRegs.reset)).btnA = button false 199991 true ∧
    (ran .edgeA (edgeState 199990 b ButtonRegs.reset)).btnA = b := by decide
/-- V-EDGE-16: button B has its own registers. -/
theorem test_edgeB_own_time :
    let t := ran .edgeB (edgeState 100 (button true 0 true) (button false 0 false))
    t.btnA = button true 0 true ∧ t.btnB = button true 100 true ∧ t.refv = true ∧ t.ledOut = 3#2 := by decide
/-- V-EDGE-17, V-EDGE-18. -/
theorem test_edgeB_guard :
    let a := button true 0 true
    let b := button true 100 true
    (ran .edgeB (edgeState 200100 a b)).btnB = b ∧ (ran .edgeB (edgeState 200101 a b)).btnB = button false 200101 true := by
  decide

/-! ### One cycle each -/

/-- V-CYC-M5, cycle 0: an accepted SET of index 25 is answered in the next cycle. -/
theorem test_step_accepts :
    (stepped (fresh [presenting 0x39000001])).outputs.rspValid = true ∧
    (stepped (fresh [presenting 0x39000001])).outputs.rspCode = 1#3 := by decide
/-- R271: no command is accepted under reset. -/
theorem test_step_reset : (stepped (fresh [{ presenting 0x20FFFFFF with rst := true }])).fb = State.reset.fb := by decide
/-- V-CYC-M1, cycles 601 and 15 001: the last cycle of a cell of the framebuffer, and of the frame. -/
theorem test_step_positions :
    let s := { fresh [Inputs.quiet] with txs := .shift, bitidx := 0, ph := 24 }
    let t := stepped s
    let u := stepped { s with pix := 24 }
    t.pix = 1#5 ∧ t.bitidx = 23#5 ∧ t.ph = 0 ∧ t.txs = .shift ∧ u.txs = .gap ∧ u.pix = 0#5 ∧ u.bitidx = 23#5 := by decide
/-- V-CYC-M1, cycle 17 001: the end of the gap answers. -/
theorem test_step_gap_end :
    let t := stepped { fresh [Inputs.quiet] with txs := .gap, gapcnt := 1999 }
    t.txs = .idle ∧ t.gapcnt = 0 ∧ t.rspv = true ∧ t.rspc = 0#3 := by decide
/-- V-EDGE-20: edges of A and B in one cycle, A rejected and B accepted, one refresh; and the flops move on. -/
theorem test_step_both_edges :
    let t := stepped { fresh [Inputs.quiet] with
      now := 8, btnA := falling (button true 7 true), btnB := falling (button false 0 false) }
    t.btnA.level = true ∧ t.btnA.last = 7 ∧ t.btnB.level = true ∧ t.btnB.last = 8 ∧ t.btnB.seen = true ∧
    t.refv = true ∧ t.btnA.s3 = false ∧ t.pre = 1 := by decide
/-- R191: the twentieth cycle of a microsecond. -/
theorem test_step_timer :
    let t := stepped { fresh [Inputs.quiet] with pre := 19, now := 3 }
    t.pre = 0 ∧ t.now = 4 := by decide
/-- R191: a timer of 128 bits passes 2^64 - 1. -/
theorem test_step_wide_timer :
    (stepped { fresh [Inputs.quiet] with cfg := { Config.defaults with timeBits := 128 }, pre := 19, now := 2 ^ 64 - 1 }).now =
      2 ^ 64 := by decide
/-- R191, R209: a timer of 18 bits starts again after 2^18 - 1, and an elapsed time is taken modulo 2^18. -/
theorem test_step_narrow_timer :
    let c : Params := { Config.defaults with timeBits := 18 }
    let t := stepped { fresh [Inputs.quiet] with cfg := c, pre := 19, now := 0x3FFFF }
    t.now = 0 ∧ (button true 0x3FFFF true).elapsed c 5 = 6 := by decide
/-- R143: a 1 is high for 16 cycles and a 0 for 8. -/
theorem test_dout :
    let s := { fresh [] with txs := .shift, fb := writeCell blankFramebuffer 0 0x800001 }
    ({ s with ph := 15 } : State).dout = true ∧ ({ s with ph := 16 } : State).dout = false ∧
    ({ s with bitidx := 22, ph := 7 } : State).dout = true ∧ ({ s with bitidx := 22, ph := 8 } : State).dout = false := by decide
/-- V-FLU-3: the ones of the frame, and its bytes. -/
theorem test_frame :
    let fb := writeCell blankFramebuffer 7 0x102030
    frameBit fb 171 = true ∧ frameBit fb 178 = true ∧ frameBit fb 186 = true ∧ frameBit fb 187 = true ∧
    frameBit fb 170 = false ∧ frameBit fb 188 = false ∧
    frameByte fb 21 = 0x10#8 ∧ frameByte fb 22 = 0x20#8 ∧ frameByte fb 23 = 0x30#8 := by decide +kernel
/-- R149: a pulse of 16 cycles is a 1 and one of 8 a 0; the 1 600th low cycle ends a frame, and the 1 599th does not. -/
theorem test_receiver :
    ((lineOfBits Config.defaults [true, false]).foldl (Receiver.sample Config.defaults) Receiver.start).bits = [some true, some false] ∧
    (Receiver.sample Config.defaults { high := 0, low := 1599, bits := [some true], frames := [] } false).frames = [[some true]] ∧
    (Receiver.sample Config.defaults { high := 0, low := 1598, bits := [some true], frames := [] } false).frames = [] := by decide +kernel
/-- The very next step of a state made by `withFetchWord` runs the table's word (log entry 2). -/
theorem test_withFetchWord :
    (stepped (State.reset.withFetchWord 32 0x27102030)).fb[7] = 0x102030#24 ∧
    (stepped (State.reset.withFetchWord 8 2)).btnA.level = true ∧
    (stepped (State.reset.withFetchWord 8 8)).btnB.level = true := by decide

/-! ### Witnesses: what the statements assume can be met -/

/-- A run whose listed inputs have no reset. -/
theorem noReset_of_list (s : State) (xs : List Inputs) (hi : s.inputs = xs) (hx : ∀ x ∈ xs, x.rst = false) :
    NoReset xs.length s := by
  intro m hm
  have hg : xs[m]? = some xs[m] := List.getElem?_eq_getElem hm
  simp only [State.inputAt, hi, hg]
  exact hx _ (List.getElem_mem hm)

/-- Quiet inputs for `n` cycles. -/
def quietFor (n : Nat) : List Inputs := List.replicate n Inputs.quiet

theorem noReset_quiet (n : Nat) (s : State) (hi : s.inputs = quietFor n) : NoReset n s := by
  have h := noReset_of_list s (quietFor n) hi fun x hx => by rw [List.eq_of_mem_replicate hx]; rfl
  rwa [quietFor, List.length_replicate] at h

theorem noReset_cons (x : Inputs) (n : Nat) (s : State) (hi : s.inputs = x :: quietFor n) (hr : x.rst = false) :
    NoReset (n + 1) s := by
  have h := noReset_of_list s (x :: quietFor n) hi (by
    intro y hy
    rcases List.mem_cons.mp hy with h | h
    · rw [h]; exact hr
    · rw [List.eq_of_mem_replicate h]; rfl)
  rwa [List.length_cons, quietFor, List.length_replicate] at h

theorem witness_ResetInputOverridesEveryRule : (fresh [{ Inputs.quiet with rst := true }]).input.rst = true := by decide

theorem witness_SetWritesOneCellOrFails : (24#5).toNat < 25 ∧ 25 ≤ (25#5).toNat ∧ 25 ≤ (31#5).toNat := by decide

theorem witness_GlyphWritesEveryCellOrFails : (9#8).toNat < 10 ∧ 10 ≤ (10#8).toNat := by decide

theorem witness_ByteEchoesWritesAndTransmits :
    (0x30 ≤ (0x30#8).toNat ∧ (0x30#8).toNat ≤ 0x39) ∧ (0x30 ≤ (0x39#8).toNat ∧ (0x39#8).toNat ≤ 0x39) ∧
    (0x2F#8).toNat < 0x30 ∧ 0x39 < (0x3A#8).toNat := by decide

theorem witness_EdgeATogglesOrIsDropped :
    let s := edgeState 200000 (button true 0 true) ButtonRegs.reset
    let t := edgeState 200001 (button true 0 true) ButtonRegs.reset
    (fresh []).btnA.seen = false ∧ 200000 < ((t.now : Int) - t.btnA.last) % (2 ^ t.cfg.timeBits : Nat) ∧
    s.btnA.seen = true ∧ ((s.now : Int) - s.btnA.last) % (2 ^ s.cfg.timeBits : Nat) ≤ 200000 := by decide

theorem witness_EdgeBTogglesOrIsDropped :
    let s := edgeState 200000 ButtonRegs.reset (button true 0 true)
    let t := edgeState 200001 ButtonRegs.reset (button true 0 true)
    (fresh []).btnB.seen = false ∧ 200000 < ((t.now : Int) - t.btnB.last) % (2 ^ t.cfg.timeBits : Nat) ∧
    s.btnB.seen = true ∧ ((s.now : Int) - s.btnB.last) % (2 ^ s.cfg.timeBits : Nat) ≤ 200000 := by decide

theorem witness_FailedCommandsHaveNoPartialEffect :
    answerOf (.set 25 0) ≠ .ok ∧ answerOf (.glyph 10) ≠ .ok ∧ answerOf .reserved0 ≠ .ok := by decide

theorem witness_CommandsAndEdgesCommute : (Instr.byte 0x37).isCommand = true ∧ (Instr.set 24 1).isCommand = true := by decide

theorem witness_EncodeOfDecodeIsTheCanonicalWord :
    (0x9FFFFF07#32 ^^^ 0x80000007#32) &&& ~~~(ignoredBits (decodeCommand 0x9FFFFF07#32)) = 0#32 := by decide

theorem witness_EventsAreSelectedByTheEdgeFlops : decode (.flops .b true false) = .ok .edgeB := rfl

theorem witness_PseudoInstructionsExpand : 31 < 32 ∧ 255 < 256 ∧ 4 < 5 ∧ 0xFFFFFF < 2 ^ 24 ∧
    32 ≤ 32 ∧ 256 ≤ 256 ∧ 5 ≤ 5 ∧ 2 ^ 24 ≤ 0x1000000 := by decide

theorem witness_StepRunsTheDecodedOperations :
    (fresh [presenting 0x40000000]).input.rst = false ∧
    (((edgeState 0 (falling ButtonRegs.reset) ButtonRegs.reset).btn .a).s3 = true ∧
      ((edgeState 0 (falling ButtonRegs.reset) ButtonRegs.reset).btn .a).s2 = false) ∧
    ((fresh []).btn .b).s3 = false := by decide

theorem witness_StepIsTheSimultaneousAssignment : (fresh [presenting 0xA0000037]).input.rst = false := by decide

theorem witness_UnacceptedCommandsHaveNoInfluence :
    (fresh [Inputs.quiet]).inputs = [Inputs.quiet] ∧ Inputs.quiet.cmdValid = false ∧
    ({ fresh [Inputs.quiet] with txs := .gap } : State).txs ≠ .idle := by decide

/-- An accepted SET, an accepted FLUSH, the last cycle of the gap and the one before it: each has a next state. -/
theorem witness_ResponsePulsesHaveTheirCause :
    let a := fresh [presenting 0x38FFFFFF]
    let b := fresh [presenting 0x60000000]
    let c := { fresh [Inputs.quiet] with txs := .gap, gapcnt := 1999 }
    let d := { fresh [Inputs.quiet] with txs := .gap, gapcnt := 1998 }
    (a.input.rst = false ∧ step a = .next (stepped a) ∧ a.acceptedCommand a.input = some (.set 24 0xFFFFFF)) ∧
    (b.input.rst = false ∧ step b = .next (stepped b) ∧ b.acceptedCommand b.input = some .flush) ∧
    (c.input.rst = false ∧ step c = .next (stepped c) ∧ c.acceptedCommand c.input = none) ∧
    (d.input.rst = false ∧ step d = .next (stepped d) ∧ d.acceptedCommand d.input = none) := by
  refine ⟨⟨?_, rfl, ?_⟩, ⟨?_, rfl, ?_⟩, ⟨?_, rfl, ?_⟩, ?_, rfl, ?_⟩ <;> decide

/-- An accepted BYTE, and a cycle in which nothing is accepted. -/
theorem witness_EchoFollowsAcceptedBytesOnly :
    let a := fresh [presenting 0xA0000023]
    let b := fresh [Inputs.quiet]
    (a.input.rst = false ∧ step a = .next (stepped a) ∧ a.acceptedCommand a.input = some (.byte 0x23)) ∧
    (b.input.rst = false ∧ step b = .next (stepped b) ∧ b.acceptedCommand b.input = none) := by
  refine ⟨⟨?_, rfl, ?_⟩, ?_, rfl, ?_⟩ <;> decide

/-- A button with a detected edge that passes the guard by one microsecond, and one that misses it by as much. -/
def guardState (now : Nat) : State :=
  { fresh [Inputs.quiet] with now := now, btnA := falling (button true 0 true), btnB := falling (button true 1 true) }

theorem witness_DetectedEdgesMeetTheGuard :
    let s := guardState 200001
    s.input.rst = false ∧ step s = .next (stepped s) ∧ (s.btn .a).acc s.cfg s.now = true ∧ (s.btn .b).acc s.cfg s.now = false := by
  refine ⟨?_, rfl, ?_, ?_⟩ <;> decide

theorem witness_NoEdgesInConsecutiveCycles :
    let s := guardState 200001
    step s = .next (stepped s) ∧ (s.btn .a).fall = true := ⟨rfl, by decide⟩

theorem witness_UnitMIsIndependentOfUnitD :
    let s := { guardState 200001 with inputs := [presenting 0x40000000] }
    let t := fresh [presenting 0x40000000]
    s.cfg = t.cfg ∧ SameUnitM s t ∧ s.input.rst = t.input.rst ∧ s.input.cmdValid = t.input.cmdValid ∧ s.input.cmdData = t.input.cmdData ∧
    step s = .next (stepped s) ∧ step t = .next (stepped t) :=
  ⟨rfl, ⟨rfl, rfl, rfl, rfl, rfl, rfl, rfl, rfl, rfl, rfl⟩, rfl, rfl, rfl, rfl, rfl⟩

theorem witness_UnitDIsIndependentOfUnitM :
    let s := guardState 200001
    let t := { guardState 200001 with inputs := [presenting 0x40000000], pix := 3 }
    s.cfg = t.cfg ∧ SameUnitD s t ∧ s.input.rst = t.input.rst ∧ s.input.btnsA = t.input.btnsA ∧ s.input.btnsB = t.input.btnsB ∧
    step s = .next (stepped s) ∧ step t = .next (stepped t) :=
  ⟨rfl, ⟨rfl, rfl, rfl, rfl, rfl⟩, rfl, rfl, rfl, rfl, rfl⟩

/-- A state in which a frame is on the line, at the position given. -/
def shifting (pix bitidx : BitVec 5) (ph : Nat) : State :=
  { fresh [Inputs.quiet] with txs := .shift, pix := pix, bitidx := bitidx, ph := ph }

theorem witness_DataLineIsHighInTheHighPartOnly :
    SequencerOk (shifting 24 0 24) ∧ (shifting 24 0 24).txs = .shift ∧ (shifting 24 0 24).pix.toNat < 25 ∧
    SequencerOk (fresh []) ∧ (fresh []).txs ≠ .shift := by
  refine ⟨?_, ?_, ?_, ?_, ?_⟩ <;> simp [SequencerOk, shifting, fresh, State.reset]

theorem witness_ShiftAdvancesThePosition :
    let s := shifting 24 0 23
    let t := shifting 24 0 24
    (s.cfg.Positive ∧ SequencerOk s ∧ s.txs = .shift ∧ s.input.rst = false ∧ step s = .next (stepped s) ∧ s.position = 14998) ∧
    (t.cfg.Positive ∧ SequencerOk t ∧ t.txs = .shift ∧ t.input.rst = false ∧ step t = .next (stepped t) ∧ t.position = 14999) := by
  refine ⟨⟨defaults_positive, ?_, rfl, rfl, rfl, rfl⟩, defaults_positive, ?_, rfl, rfl, rfl, rfl⟩ <;>
    simp [SequencerOk, shifting, fresh, State.reset]

theorem witness_GapCountsAndAnswers :
    let s := { fresh [Inputs.quiet] with txs := .gap, gapcnt := 1998 }
    let t := { fresh [Inputs.quiet] with txs := .gap, gapcnt := 1999 }
    (s.txs = .gap ∧ s.input.rst = false ∧ step s = .next (stepped s) ∧ s.gapcnt + 1 < s.cfg.gapCycles) ∧
    (t.txs = .gap ∧ t.input.rst = false ∧ step t = .next (stepped t) ∧ t.cfg.gapCycles ≤ t.gapcnt + 1) :=
  ⟨⟨rfl, rfl, rfl, by decide⟩, rfl, rfl, rfl, by decide⟩

/-- A FLUSH accepted now, and quiet inputs for the 17 000 cycles after it. -/
def flushing : State := fresh (presenting 0x60000000 :: quietFor 17000)

theorem flushing_busy : flushing.cfg.busyCycles + 1 = 17001 := rfl

theorem flushing_noReset : NoReset (flushing.cfg.busyCycles + 1) flushing := by
  rw [flushing_busy]
  exact noReset_cons (presenting 0x60000000) 17000 flushing rfl rfl

theorem witness_TransmissionTakes17001Cycles :
    flushing.cfg.Positive ∧ flushing.cfg.Allowed ∧ flushing.acceptedCommand flushing.input = some .flush ∧
    Instr.flush.transmits = true ∧ NoReset (flushing.cfg.busyCycles + 1) flushing ∧
    1 ≤ 1 ∧ 17001 ≤ flushing.cfg.busyCycles + 1 :=
  ⟨defaults_positive, defaults_allowed, rfl, rfl, flushing_noReset, Nat.le_refl _, Nat.le_of_eq flushing_busy.symm⟩

theorem witness_WaveformHasItsClosedForm :
    flushing.cfg.Positive ∧ flushing.cfg.Allowed ∧ flushing.acceptedCommand flushing.input = some .flush ∧
    Instr.flush.transmits = true ∧ NoReset (flushing.cfg.busyCycles + 1) flushing :=
  ⟨defaults_positive, defaults_allowed, rfl, rfl, flushing_noReset⟩

theorem witness_ReceiverRecoversAnyBits :
    Config.defaults.Allowed ∧ [false] ≠ ([] : List Bool) ∧ Config.defaults.LastsAtLeast 1600 80000 :=
  ⟨defaults_allowed, by decide, by simp [Params.LastsAtLeast]⟩

theorem witness_FlushAndByteSendTheirFrame :
    flushing.cfg.Positive ∧ flushing.cfg.Allowed ∧ flushing.acceptedCommand flushing.input = some .flush ∧
    Instr.flush.transmits = true ∧ NoReset (flushing.cfg.busyCycles + 1) flushing :=
  ⟨defaults_positive, defaults_allowed, rfl, rfl, flushing_noReset⟩

theorem witness_LineIsLowBetweenFrames :
    flushing.cfg.Allowed ∧ flushing.acceptedCommand flushing.input = some .flush ∧
    NoReset (flushing.cfg.busyCycles + 1) flushing ∧ stateAfter 1 flushing = some (stepped flushing) ∧ frameBit (stepped flushing).fb 599 = false :=
  ⟨defaults_allowed, rfl, flushing_noReset, rfl, by decide +kernel⟩

theorem witness_ReadyWithin17000Cycles :
    let s := { fresh (quietFor 17000) with txs := .shift }
    s.cfg.Positive ∧ RegistersOk s ∧ s.cfg.busyCycles = 17000 ∧ NoReset 17000 s := by
  refine ⟨defaults_positive, ?_, rfl, noReset_quiet 17000 _ rfl⟩
  simp [RegistersOk, TimeBitsOk, SequencerOk, ResponseOk, EchoOk, TimerOk, ButtonOk, fresh, State.reset, ButtonRegs.reset]

/-- The last cycle of a gap, and a host that holds a FLUSH through it. -/
def holding : State :=
  { fresh (presenting 0x60000000 :: presenting 0x60000000 :: quietFor 16999) with txs := .gap, gapcnt := 1999 }

theorem holding_noReset : NoReset 17001 holding := by
  have h := noReset_of_list holding (presenting 0x60000000 :: presenting 0x60000000 :: quietFor 16999) rfl (by
    intro x hx
    rcases List.mem_cons.mp hx with rfl | hx
    · rfl
    · rcases List.mem_cons.mp hx with rfl | hx
      · rfl
      · rw [List.eq_of_mem_replicate hx]; rfl)
  rwa [List.length_cons, List.length_cons, quietFor, List.length_replicate] at h

theorem witness_HeldCommandIsAccepted :
    holding.cfg.Positive ∧ RegistersOk holding ∧ holding.cfg.busyCycles = 17000 ∧ NoReset 17001 holding ∧ HostHolds 17000 holding ∧
    holding.ready = false := by
  refine ⟨defaults_positive, ?_, rfl, holding_noReset, ⟨rfl, ?_⟩, rfl⟩
  · simp [RegistersOk, TimeBitsOk, SequencerOk, ResponseOk, EchoOk, TimerOk, ButtonOk, holding, fresh, State.reset, ButtonRegs.reset]
  · intro m _ hw
    match m with
    | 0 => exact ⟨rfl, rfl⟩
    | m + 1 =>
      have hr := hw 1 (stepped holding) (by omega) (stateAfter_succ_of_step 0 holding _ rfl)
      exact absurd hr (by decide)

theorem witness_FrameBitsAreTheBitsOfFrameBytes : 74 < 75 ∧ 7 < 8 := by decide

theorem witness_FrameIsTheWholeFramebufferMsbFirst : 0 < 600 ∧ 599 < 600 := by decide

theorem witness_CellPlacesAreRowMajor : 24 < 25 ∧ 4 < 5 ∧ 0 < 5 := by decide

theorem witness_MemReadAfterMemWrite : 24 + 1 ≤ 25 ∧ 0 + 25 ≤ 25 ∧ 25 + 0 ≤ 25 ∧ 25 < 24 + 2 := by decide

theorem witness_SetOnBlankGivesThePixelsBytes : (fresh []).fb = blankFramebuffer ∧ (24#5).toNat < 25 := by decide

theorem witness_EveryStepKeepsTheInvariant :
    RegistersOk (shifting 24 0 24) ∧ step (shifting 24 0 24) = .next (stepped (shifting 24 0 24)) := by
  refine ⟨?_, rfl⟩
  simp [RegistersOk, TimeBitsOk, SequencerOk, ResponseOk, EchoOk, TimerOk, ButtonOk, shifting, fresh, State.reset, ButtonRegs.reset]

theorem witness_CountersHaveTheirWidths :
    RegistersOk (shifting 24 0 24) ∧ (shifting 24 0 24).cfg.Positive ∧ (shifting 24 0 24).cfg = Config.defaults := by
  refine ⟨?_, defaults_positive, rfl⟩
  simp [RegistersOk, TimeBitsOk, SequencerOk, ResponseOk, EchoOk, TimerOk, ButtonOk, shifting, fresh, State.reset,
    ButtonRegs.reset]

theorem witness_RecordedTimesStayBehindNow :
    let s := guardState 200001
    TimesOk s ∧ s.now + 1 < 2 ^ s.cfg.timeBits ∧ step s = .next (stepped s) ∧ s.input.rst = false := by
  refine ⟨?_, by decide, rfl, rfl⟩
  simp [TimesOk, guardState, falling, button]

theorem witness_TimerCountsMicrosecondsFromReset :
    0 < Config.defaults.usCycles ∧ NoReset 20 { State.reset with cfg := Config.defaults, inputs := quietFor 20, envTick := 0 } :=
  ⟨by decide, noReset_quiet 20 _ rfl⟩

theorem witness_SynchronizerDelaysTheSamples :
    NoReset 2 (fresh (quietFor 2)) ∧ NoReset 3 (fresh (quietFor 3)) := ⟨noReset_quiet 2 _ rfl, noReset_quiet 3 _ rfl⟩

/-- Button A is held, button B released. -/
def heldA : Inputs := { Inputs.quiet with btnsA := false }

theorem witness_HeldButtonIsNoPress :
    let s := fresh [heldA, heldA]
    NoReset 2 s ∧ (∀ m, m < 2 → buttonSample (s.inputAt m) .a = false) ∧ (stateAfter 2 s).isSome = true := by
  refine ⟨noReset_of_list _ [heldA, heldA] rfl (by simp [heldA, Inputs.quiet]), ?_, by decide⟩
  intro m hm
  match m, hm with
  | 0, _ => rfl
  | 1, _ => rfl

/-- One cycle with a detected edge of A at 200 000 µs after the last accepted one. -/
theorem witness_ChatterInTheWindowIsDropped :
    let s := guardState 200000
    (s.btn .a).seen = true ∧ (s.btn .a).fall = true ∧ NoReset 1 s ∧
    (∀ m u, m < 1 → stateAfter m s = some u →
      (s.btn .a).last ≤ u.now ∧ u.now ≤ (s.btn .a).last + 200000) ∧
    stateAfter 1 s = some (stepped s) := by
  refine ⟨rfl, rfl, noReset_quiet 1 _ rfl, ?_, rfl⟩
  intro m u hm hu
  have hm : m = 0 := by omega
  subst hm
  simp only [stateAfter, Option.some.injEq] at hu
  subst hu
  decide

/-- An accepted edge at the last cycle of a microsecond, and the state one cycle later. -/
theorem witness_GuardBoundaryInCycles :
    let s := { guardState 200001 with pre := 19 }
    0 < s.cfg.usCycles ∧ TimerOk s ∧ s.now < 2 ^ s.cfg.timeBits ∧ NoReset 1 s ∧
    (s.pre + 1) / s.cfg.usCycles < 2 ^ s.cfg.timeBits ∧ s.cfg.usCycles = 20 ∧ stateAfter 1 s = some (stepped s) ∧
    ((stepped s).btn .a).seen = true ∧ ((stepped s).btn .a).last = s.now := by
  refine ⟨by decide, ?_, by decide, noReset_quiet 1 _ rfl, by decide, rfl, rfl, ?_, ?_⟩
  · simp [TimerOk, guardState, fresh, State.reset]
  · decide
  · decide

theorem witness_LevelIsTheParityOfAcceptedEdges : NoReset 4 (fresh (quietFor 4)) := noReset_quiet 4 _ rfl

theorem witness_CycleLevelRefinesTransactions :
    let s := { guardState 200001 with inputs := [presenting 0xA0000037] }
    NoReset 1 s ∧ operationsOf s = [(.byte 0x37, 200001), (.edgeA, 200001), (.edgeB, 200001)] :=
  ⟨noReset_cons (presenting 0xA0000037) 0 _ rfl rfl, by decide⟩

theorem witness_PortsShowTheTransactionsEffects :
    let s := fresh [presenting 0x38FFFFFF]
    let t := fresh [presenting 0x60000000]
    let u := fresh [presenting 0xA0000041]
    (s.acceptedCommand s.input = some (.set 24 0xFFFFFF) ∧ step s = .next (stepped s) ∧
      (transact s.cfg (.set 24 0xFFFFFF) s.now s.abs).2 = [.respond .ok]) ∧
    (t.acceptedCommand t.input = some .flush ∧ step t = .next (stepped t) ∧
      (transact t.cfg .flush t.now t.abs).2 = [.frame (frameBits t.fb), .respond .ok]) ∧
    (u.acceptedCommand u.input = some (.byte 0x41) ∧ step u = .next (stepped u)) :=
  ⟨⟨rfl, rfl, rfl⟩, ⟨rfl, rfl, rfl⟩, rfl, rfl⟩

/-- R175: at the transaction level a BYTE gives its echo before its frame, and its answer after both. -/
theorem test_byte_effects_in_order : (transact Config.defaults (.byte 0x41) 0 (fresh []).abs).2 =
    [.echo 0x41, .frame (frameBits blankFramebuffer), .respond .ok] := rfl

theorem witness_PulsesAreTheAdaptersRequests :
    (fresh []).echov = false ∧ (fresh []).refv = false ∧
    ({ fresh [] with echov := true, refv := true } : State).echov = true ∧
    ({ fresh [] with echov := true, refv := true } : State).refv = true := by decide

end Sys2Proof.Tests
end

section
/-! PROOFS. `MemRead` and `MemWrite` of 00_scope.md R14: what each gives, cell by cell, and that they fit together. -/

namespace Sys2Proof.Proofs

open Sys2Proof Sys2Proof.Machine

/-! ### The joined cells -/

/-- The bits of the joined cells, most significant first: cell after cell in R14's order. -/
theorem joinCells_getMsbD (fb : Framebuffer) (i n j : Nat) (hj : j < 24 * n) :
    (joinCells fb i n).getMsbD j = (readCell fb (i + j / 24)).getMsbD (j % 24) := by
  induction n with
  | zero => omega
  | succ n ih =>
    have happ : (joinCells fb i (n + 1)).getMsbD j =
        if 24 * n ≤ j then (readCell fb (i + n)).getMsbD (j - 24 * n) else (joinCells fb i n).getMsbD j :=
      BitVec.getMsbD_append
    rw [happ]
    split
    next hlast =>
      have hcell : j / 24 = n := by omega
      have hbit : j % 24 = j - 24 * n := by omega
      rw [hcell, hbit]
    next hfront => exact ih (by omega)

/-- A value is the joined cells when each of its 24-bit parts, the most significant first, is the cell in its place. -/
theorem joinCells_eq_of_parts (fb : Framebuffer) (i n : Nat) (v : BitVec (24 * n))
    (h : ∀ k < n, readCell fb (i + k) = v.extractLsb' (24 * (n - 1 - k)) 24) : joinCells fb i n = v := by
  apply BitVec.eq_of_getMsbD_eq
  intro j hj
  have hk : j / 24 < n := by omega
  have hbit : j % 24 < 24 := by omega
  have hpos : 24 * (n - 1 - j / 24) + (24 - 1 - j % 24) = 24 * n - 1 - j := by omega
  have hrev : 24 - 1 - j % 24 < 24 := by omega
  calc (joinCells fb i n).getMsbD j
      = (v.extractLsb' (24 * (n - 1 - j / 24)) 24).getMsbD (j % 24) := by rw [joinCells_getMsbD fb i n j hj, h _ hk]
    _ = v.getLsbD (24 * (n - 1 - j / 24) + (24 - 1 - j % 24)) := by
      simp only [BitVec.getMsbD_eq_getLsbD, BitVec.getLsbD_extractLsb', hbit, hrev, decide_true, Bool.true_and]
    _ = v.getMsbD j := by simp only [hpos, BitVec.getMsbD_eq_getLsbD, hj, decide_true, Bool.true_and]

/-! ### Within and beyond the 25 cells -/

theorem memRead_of_le (fb : Framebuffer) {i n : Nat} (h : i + n ≤ 25) : memRead fb i n = some (joinCells fb i n) :=
  if_pos h

theorem memRead_of_gt (fb : Framebuffer) {i n : Nat} (h : 25 < i + n) : memRead fb i n = none :=
  if_neg (by omega)

theorem memWrite_of_gt (fb : Framebuffer) {i n : Nat} (v : BitVec (24 * n)) (h : 25 < i + n) :
    memWrite fb i n v = none :=
  if_neg (by omega)

/-- What a defined `MemWrite` leaves: R14's part of the value in each cell of the range, and every other cell as before. -/
theorem memWrite_of_le (fb : Framebuffer) {i n : Nat} (v : BitVec (24 * n)) (h : i + n ≤ 25) :
    ∃ fb' : Framebuffer, memWrite fb i n v = some fb' ∧
      (∀ k < n, readCell fb' (i + k) = v.extractLsb' (24 * (n - 1 - k)) 24) ∧
      ∀ j : Fin 25, j.val < i ∨ i + n ≤ j.val → fb'[j] = fb[j] := by
  refine ⟨_, if_pos h, ?written, ?kept⟩
  case written =>
    intro k hk
    have hcell : i + k < 25 := by omega
    rw [readCell_of_lt _ _ hcell]
    simp [hk]
  case kept =>
    intro j hj
    have hout : ¬(i ≤ j.val ∧ j.val < i + n) := by omega
    simp [hout]

/-! ### The obligation -/

/-- Settles O44: a write puts into each cell of the range the part that a read of the range joins in its place. -/
theorem memReadAfterMemWrite : Obligations.MemReadAfterMemWrite := by
  intro fb i n v
  constructor
  · intro hin
    obtain ⟨fb', hwrite, hparts, hkept⟩ := memWrite_of_le fb v hin
    have hread : memRead fb' i n = some v := by
      rw [memRead_of_le fb' hin, joinCells_eq_of_parts fb' i n v hparts]
    exact ⟨fb', hwrite, hread, hkept⟩
  · intro hout
    exact ⟨memWrite_of_gt fb v hout, memRead_of_gt fb hout⟩

end Sys2Proof.Proofs
end

section
/-! PROOFS. The registers of 10_state.md: their reset values (R50), what one step does to each unit's registers, and the
invariant of R51 that every step keeps. -/

namespace Sys2Proof.Proofs

open Sys2Proof Sys2Proof.Machine

/-! ### What a command does to the state -/

/-- Everything a command can do: it answers at once and may write the framebuffer, or it starts a transmission; of the two that
transmit only BYTE echoes and writes. -/
theorem exec_command_cases {i : Instr} {s u : State} (hi : i.isCommand = true) (h : exec i s = .next u) :
    (i.transmits = false ∧ ∃ fb, u = (s.writeFb fb).respond (answerOf i)) ∨
    (i = .flush ∧ u = s.startTx) ∨
    (∃ c, i = .byte c ∧ u = ((s.emitEcho c).writeFb (byteImage c)).startTx) := by
  cases i with
  | set idx pix =>
    left
    rcases Nat.lt_or_ge idx.toNat 25 with hin | hout
    · rw [exec_set_of_lt idx pix s hin] at h
      cases h
      exact ⟨rfl, _, by rw [answerOf, if_neg (by omega)]⟩
    · rw [exec_set_of_ge idx pix s hout] at h
      cases h
      exact ⟨rfl, s.fb, by rw [answerOf, if_pos hout]; rfl⟩
  | glyph d =>
    left
    rcases Nat.lt_or_ge d.toNat 10 with hdigit | hother
    · rw [exec_glyph_of_lt d s hdigit] at h
      cases h
      exact ⟨rfl, _, by rw [answerOf, if_neg (by omega)]⟩
    · rw [exec_glyph_of_ge d s hother] at h
      cases h
      exact ⟨rfl, s.fb, by rw [answerOf, if_pos hother]; rfl⟩
  | clear => cases h; exact .inl ⟨rfl, _, rfl⟩
  | flush => cases h; exact .inr (.inl ⟨rfl, rfl⟩)
  | byte c => cases h; exact .inr (.inr ⟨c, rfl, rfl⟩)
  | reserved0 => cases h; exact .inl ⟨rfl, s.fb, rfl⟩
  | reserved6 => cases h; exact .inl ⟨rfl, s.fb, rfl⟩
  | reserved7 => cases h; exact .inl ⟨rfl, s.fb, rfl⟩
  | edgeA => cases hi
  | edgeB => cases hi

/-- `TransportUnavailable` is never the block's answer (R234). -/
theorem answerOf_ne_transportUnavailable (i : Instr) : answerOf i ≠ .transportUnavailable := by
  cases i with
  | set idx pix => rw [answerOf]; split <;> decide
  | glyph d => rw [answerOf]; split <;> decide
  | clear | flush | byte _ | reserved0 | reserved6 | reserved7 | edgeA | edgeB => rw [answerOf]; decide

/-! ### The sequencer in each of its states, and what it leaves unchanged -/

theorem stepSequencer_of_idle {s : State} (h : s.txs = .idle) : s.stepSequencer = s := by rw [State.stepSequencer, h]

theorem stepSequencer_of_shift {s : State} (h : s.txs = .shift) : s.stepSequencer = s.stepShift := by
  rw [State.stepSequencer, h]

theorem stepSequencer_of_gap {s : State} (h : s.txs = .gap) : s.stepSequencer = s.stepGap := by
  rw [State.stepSequencer, h]

/-- The sequencer writes its own position and the response, nothing else. -/
theorem stepSequencer_frame (s : State) :
    s.stepSequencer =
      { s with
        txs := s.stepSequencer.txs
        pix := s.stepSequencer.pix
        bitidx := s.stepSequencer.bitidx
        ph := s.stepSequencer.ph
        gapcnt := s.stepSequencer.gapcnt
        rspv := s.stepSequencer.rspv
        rspc := s.stepSequencer.rspc } := by
  cases htxs : s.txs with
  | idle => rw [stepSequencer_of_idle htxs]
  | shift =>
    rw [stepSequencer_of_shift htxs]
    rcases s.stepShift_cases with ⟨_, h⟩ | ⟨_, _, h⟩ | ⟨_, _, _, h⟩ | ⟨_, _, _, h⟩ <;> rw [h]
  | gap =>
    rw [stepSequencer_of_gap htxs]
    rcases s.stepGap_cases with ⟨_, h⟩ | ⟨_, h⟩ <;> rw [h]

/-! ### What one step does, unit by unit -/

/-- Under reset the step loads R50's values (R271). -/
theorem step_eq_reset {s t : State} (hr : s.input.rst = true) (h : step s = .next t) :
    t = s.resetRegisters.nextInputs := by
  rcases step_cases s t h with ⟨_, ht⟩ | ⟨hr', _⟩ | ⟨hr', _⟩
  · exact ht
  · simp [hr] at hr'
  · simp [hr] at hr'

/-- Without reset Unit M leaves a state `u`, by an accepted command or by its sequencer, and Unit D completes it. -/
theorem step_cases_of_noReset {s t : State} (hr : s.input.rst = false) (h : step s = .next t) :
    ∃ u, t = clockPhase s.input (eventsDone u) ∧
      ((s.txs = .idle ∧ s.acceptedCommand s.input = some (decodeCommand s.input.cmdData) ∧
          exec (decodeCommand s.input.cmdData) s.clearPulses = .next u) ∨
        (s.acceptedCommand s.input = none ∧ u = s.clearPulses.stepSequencer)) := by
  rcases step_cases s t h with ⟨hr', _⟩ | ⟨_, hvalid, hidle, u, hu, ht⟩ | ⟨_, hno, ht⟩
  · simp [hr] at hr'
  · exact ⟨u, ht, .inl ⟨hidle, by simp [State.acceptedCommand, State.accepts, State.ready, hr, hvalid, hidle], hu⟩⟩
  · refine ⟨_, ht, .inr ⟨?_, rfl⟩⟩
    rcases hno with hvalid | hbusy
    · simp [State.acceptedCommand, State.accepts, hvalid]
    · simp [State.acceptedCommand, State.accepts, State.ready, hbusy]

/-- What the event phases and the clock make of one button is R201's update of its registers. -/
theorem sample_events_eq_nextButton (b : ButtonRegs) (c : Params) (now : Nat) (x : Bool) :
    (if b.acc c now then b.accept now else b).sample x = nextButton b c now x := by
  cases hacc : b.acc c now <;> simp [nextButton, hacc, ButtonRegs.sample, ButtonRegs.accept]

/-- Unit D after a step without reset, whatever Unit M does: the timer counts and each button takes its next registers. -/
theorem step_unitD {s t : State} (hr : s.input.rst = false) (h : step s = .next t) :
    t.cfg = s.cfg ∧ t.pre = tickPre s.cfg s.pre ∧ t.now = tickNow s.cfg s.pre s.now ∧
      ∀ k : ButtonId, t.btn k = nextButton (s.btn k) s.cfg s.now (buttonSample s.input k) := by
  obtain ⟨u, rfl, hu⟩ := step_cases_of_noReset hr h
  have hframe : u.btnA = s.btnA ∧ u.btnB = s.btnB ∧ u.now = s.now ∧ u.pre = s.pre ∧ u.cfg = s.cfg := by
    rcases hu with ⟨_, _, hexec⟩ | ⟨_, rfl⟩
    · obtain ⟨hA, hB, hnow, hpre, _, hcfg, _⟩ := exec_command_frame _ _ _ (decodeCommand_isCommand _) hexec
      exact ⟨hA, hB, hnow, hpre, hcfg⟩
    · rw [stepSequencer_frame]
      exact ⟨rfl, rfl, rfl, rfl, rfl⟩
  obtain ⟨hA, hB, hnow, hpre, hcfg⟩ := hframe
  simp only [eventsDone_eq, clockPhase, hA, hB, hnow, hpre, hcfg]
  refine ⟨rfl, rfl, rfl, fun k => ?_⟩
  cases k with
  | a => exact sample_events_eq_nextButton s.btnA s.cfg s.now s.input.btnsA
  | b => exact sample_events_eq_nextButton s.btnB s.cfg s.now s.input.btnsB

/-! ### Unit D after Unit M: the clauses of R51 that are Unit M's do not see it -/

theorem sequencerOk_clock_events (x : Inputs) (u : State) :
    SequencerOk (clockPhase x (eventsDone u)) ↔ SequencerOk u := by rw [eventsDone_eq]; rfl

theorem responseOk_clock_events (x : Inputs) (u : State) :
    ResponseOk (clockPhase x (eventsDone u)) ↔ ResponseOk u := by rw [eventsDone_eq]; rfl

theorem clock_events_echov (x : Inputs) (u : State) : (clockPhase x (eventsDone u)).echov = u.echov := by
  rw [eventsDone_eq]; rfl

theorem clock_events_echoc (x : Inputs) (u : State) : (clockPhase x (eventsDone u)).echoc = u.echoc := by
  rw [eventsDone_eq]; rfl

/-! ### The transmit position and the gap counter: R51 (a), (b), (c) -/

theorem sequencerOk_iff_of_idle {s : State} (h : s.txs = .idle) :
    SequencerOk s ↔ s.pix = 0 ∧ s.bitidx = 23 ∧ s.ph = 0 ∧ s.gapcnt = 0 := by simp only [SequencerOk, h]

theorem sequencerOk_iff_of_shift {s : State} (h : s.txs = .shift) :
    SequencerOk s ↔ s.pix.toNat ≤ 24 ∧ s.bitidx.toNat ≤ 23 ∧ s.ph ≤ s.cfg.bitCycles - 1 ∧ s.gapcnt = 0 := by
  simp only [SequencerOk, h]

theorem sequencerOk_iff_of_gap {s : State} (h : s.txs = .gap) :
    SequencerOk s ↔ s.pix = 0 ∧ s.bitidx = 23 ∧ s.ph = 0 ∧ s.gapcnt ≤ s.cfg.gapCycles - 1 := by
  simp only [SequencerOk, h]

/-- In every state of the sequencer both counters are within their ranges. -/
theorem counters_le_of_sequencerOk {s : State} (h : SequencerOk s) :
    s.ph ≤ s.cfg.bitCycles - 1 ∧ s.gapcnt ≤ s.cfg.gapCycles - 1 := by
  cases htxs : s.txs with
  | idle => obtain ⟨_, _, hph, hgap⟩ := (sequencerOk_iff_of_idle htxs).mp h; omega
  | shift => obtain ⟨_, _, hph, hgap⟩ := (sequencerOk_iff_of_shift htxs).mp h; omega
  | gap => obtain ⟨_, _, hph, hgap⟩ := (sequencerOk_iff_of_gap htxs).mp h; omega

theorem sequencerOk_stepShift {s : State} (htxs : s.txs = .shift) (h : SequencerOk s) : SequencerOk s.stepShift := by
  obtain ⟨hpix, hbit, hph, hgap⟩ := (sequencerOk_iff_of_shift htxs).mp h
  rcases s.stepShift_cases with ⟨hin, heq⟩ | ⟨_, hbits, heq⟩ | ⟨_, _, hcells, heq⟩ | ⟨_, _, _, heq⟩ <;> rw [heq]
  · exact (sequencerOk_iff_of_shift (by exact htxs)).mpr ⟨hpix, hbit, Nat.succ_le_of_lt hin, hgap⟩
  · have hnext : (s.bitidx - 1).toNat ≤ 23 := by bv_omega
    exact (sequencerOk_iff_of_shift (by exact htxs)).mpr ⟨hpix, hnext, Nat.zero_le _, hgap⟩
  · have hnext : (s.pix + 1).toNat ≤ 24 := by bv_omega
    exact (sequencerOk_iff_of_shift (by exact htxs)).mpr ⟨hnext, Nat.le_refl _, Nat.zero_le _, hgap⟩
  · exact (sequencerOk_iff_of_gap rfl).mpr ⟨rfl, rfl, rfl, Nat.zero_le _⟩

theorem sequencerOk_stepGap {s : State} (htxs : s.txs = .gap) (h : SequencerOk s) : SequencerOk s.stepGap := by
  obtain ⟨hpix, hbit, hph, _⟩ := (sequencerOk_iff_of_gap htxs).mp h
  rcases s.stepGap_cases with ⟨hin, heq⟩ | ⟨_, heq⟩ <;> rw [heq]
  · exact (sequencerOk_iff_of_gap (by exact htxs)).mpr ⟨hpix, hbit, hph, Nat.succ_le_of_lt hin⟩
  · exact (sequencerOk_iff_of_idle rfl).mpr ⟨hpix, hbit, hph, rfl⟩

theorem sequencerOk_stepSequencer {s : State} (h : SequencerOk s) : SequencerOk s.stepSequencer := by
  cases htxs : s.txs with
  | idle => rwa [stepSequencer_of_idle htxs]
  | shift => rw [stepSequencer_of_shift htxs]; exact sequencerOk_stepShift htxs h
  | gap => rw [stepSequencer_of_gap htxs]; exact sequencerOk_stepGap htxs h

theorem sequencerOk_exec {i : Instr} {s u : State} (hi : i.isCommand = true) (hidle : s.txs = .idle) (h : SequencerOk s)
    (hu : exec i s = .next u) : SequencerOk u := by
  obtain ⟨_, _, _, hgap⟩ := (sequencerOk_iff_of_idle hidle).mp h
  rcases exec_command_cases hi hu with ⟨_, fb, rfl⟩ | ⟨_, rfl⟩ | ⟨c, _, rfl⟩
  · exact h
  · exact (sequencerOk_iff_of_shift rfl).mpr ⟨by simp, by simp, Nat.zero_le _, hgap⟩
  · exact (sequencerOk_iff_of_shift rfl).mpr ⟨by simp, by simp, Nat.zero_le _, hgap⟩

/-! ### The response registers: R51 (d), (i) -/

theorem responseOk_of_silent {s : State} (hv : s.rspv = false) (hc : s.rspc = 0) : ResponseOk s := by
  simp [ResponseOk, hv, hc]

theorem responseOk_respond {c : RspCode} {s : State} (hc : c ≠ .transportUnavailable) (hidle : s.txs = .idle) :
    ResponseOk (s.respond c) := by
  have hcode : c.code.toNat ≤ 4 ∧ c.code ≠ 3 := by
    cases c with
    | transportUnavailable => exact absurd rfl hc
    | ok | outOfRange | invalidDigit | illegalCommand => decide
  exact ⟨fun h => (Bool.noConfusion h), hcode.1, hcode.2, fun _ => hidle⟩

/-- The sequencer answers only at the end of the gap, where it becomes idle. -/
theorem responseOk_stepSequencer {s : State} (hv : s.rspv = false) (hc : s.rspc = 0) : ResponseOk s.stepSequencer := by
  cases htxs : s.txs with
  | idle => rw [stepSequencer_of_idle htxs]; exact responseOk_of_silent hv hc
  | shift =>
    rw [stepSequencer_of_shift htxs]
    rcases s.stepShift_cases with ⟨_, h⟩ | ⟨_, _, h⟩ | ⟨_, _, _, h⟩ | ⟨_, _, _, h⟩ <;> rw [h] <;>
      exact responseOk_of_silent hv hc
  | gap =>
    rw [stepSequencer_of_gap htxs]
    rcases s.stepGap_cases with ⟨_, h⟩ | ⟨_, h⟩ <;> rw [h]
    · exact responseOk_of_silent hv hc
    · exact responseOk_respond (c := .ok) (s := { s with gapcnt := 0, txs := .idle }) (by decide) rfl

theorem responseOk_exec {i : Instr} {s u : State} (hi : i.isCommand = true) (hidle : s.txs = .idle)
    (hv : s.rspv = false) (hc : s.rspc = 0) (hu : exec i s = .next u) : ResponseOk u := by
  rcases exec_command_cases hi hu with ⟨_, fb, rfl⟩ | ⟨_, rfl⟩ | ⟨c, _, rfl⟩
  · exact responseOk_respond (answerOf_ne_transportUnavailable i) hidle
  · exact responseOk_of_silent hv hc
  · exact responseOk_of_silent hv hc

/-! ### The echo registers: R38, R51 (e) -/

/-- The echo registers after a step without reset: the byte of an accepted BYTE, or nothing. -/
theorem step_echo {s t : State} (hr : s.input.rst = false) (h : step s = .next t) :
    (∃ c, s.acceptedCommand s.input = some (.byte c) ∧ t.echov = true ∧ t.echoc = c) ∨
    ((∀ c, s.acceptedCommand s.input ≠ some (.byte c)) ∧ t.echov = false ∧ t.echoc = 0) := by
  obtain ⟨u, rfl, hu⟩ := step_cases_of_noReset hr h
  rw [clock_events_echov, clock_events_echoc]
  rcases hu with ⟨_, hcmd, hexec⟩ | ⟨hcmd, rfl⟩
  · rcases exec_command_cases (decodeCommand_isCommand _) hexec with ⟨hno, fb, rfl⟩ | ⟨hi, rfl⟩ | ⟨c, hi, rfl⟩
    · refine .inr ⟨fun c hc => ?_, rfl, rfl⟩
      have hi : decodeCommand s.input.cmdData = .byte c := Option.some.inj (hcmd.symm.trans hc)
      simp [hi, Instr.transmits] at hno
    · exact .inr ⟨by simp [hcmd, hi], rfl, rfl⟩
    · exact .inl ⟨c, by rw [hcmd, hi], rfl, rfl⟩
  · refine .inr ⟨by simp [hcmd], ?_⟩
    rw [stepSequencer_frame]
    exact ⟨rfl, rfl⟩

/-- Settles O27: of all the ways a cycle can go only an accepted BYTE emits an echo. -/
theorem echoFollowsAcceptedBytesOnly : Obligations.EchoFollowsAcceptedBytesOnly := by
  intro s t hr h
  rcases step_echo hr h with ⟨c, hcmd, hv, hc⟩ | ⟨hno, hv, hc⟩
  · refine ⟨fun c' hcmd' => ?_, fun hno => absurd hcmd (hno c)⟩
    obtain rfl : c = c' := by simpa [hcmd] using hcmd'
    exact ⟨hv, hc⟩
  · exact ⟨fun c hcmd => absurd hcmd (hno c), fun _ => ⟨hv, hc⟩⟩

/-! ### The buttons: R30, R51 (g) -/

/-- A recorded time is the one before, or the cycle's `NOW` (R199, R201). -/
theorem nextButton_last (b : ButtonRegs) (c : Params) (now : Nat) (x : Bool) :
    (nextButton b c now x).last = b.last ∨ (nextButton b c now x).last = now := by
  cases hacc : b.acc c now <;> simp [nextButton, hacc]

theorem buttonOk_nextButton {b : ButtonRegs} (c : Params) (now : Nat) (x : Bool) (h : ButtonOk b) :
    ButtonOk (nextButton b c now x) := by
  intro hseen
  obtain ⟨hbefore, hacc⟩ : b.seen = false ∧ b.acc c now = false := by simpa [nextButton] using hseen
  obtain ⟨hlevel, hlast⟩ := h hbefore
  simp [nextButton, hacc, hlevel, hlast]

/-! ### Reset: R50, R51 -/

/-- R50's state with any parameters and any environment meets the invariant. -/
theorem registersOk_of_reset (c : Params) (xs : List Inputs) (e : Nat) :
    RegistersOk { State.reset with cfg := c, inputs := xs, envTick := e } := by
  refine ⟨⟨Nat.two_pow_pos _, Nat.two_pow_pos _, Nat.two_pow_pos _⟩, ?_, responseOk_of_silent rfl rfl, fun _ => rfl,
    Nat.zero_le _, fun _ => ⟨rfl, rfl⟩, fun _ => ⟨rfl, rfl⟩⟩
  exact (sequencerOk_iff_of_idle rfl).mpr ⟨rfl, rfl, rfl, rfl⟩

/-- Settles O1, register by register from the definition of `State.reset`. -/
theorem resetStateIsTheTable : Obligations.ResetStateIsTheTable := by
  refine ⟨fun i => blankFramebuffer_getElem i i.isLt, rfl, rfl, rfl, rfl, rfl, rfl, rfl, rfl, rfl, fun k => ?_,
    rfl, rfl, rfl, rfl⟩
  cases k with
  | a => exact ⟨rfl, rfl, rfl, rfl, rfl, rfl⟩
  | b => exact ⟨rfl, rfl, rfl, rfl, rfl, rfl⟩

/-- Settles O47: the reset state is the case of the default parameters and a free environment. -/
theorem resetStateMeetsTheInvariant : Obligations.ResetStateMeetsTheInvariant :=
  ⟨registersOk_of_reset Config.defaults [] 0, Nat.le_refl _, Nat.le_refl _⟩

/-! ### Every step keeps the invariant: R51 -/

theorem step_keeps_sequencerOk {s t : State} (hr : s.input.rst = false) (h : step s = .next t) (hs : SequencerOk s) :
    SequencerOk t := by
  obtain ⟨u, rfl, hu⟩ := step_cases_of_noReset hr h
  rw [sequencerOk_clock_events]
  have hclear : SequencerOk s.clearPulses := hs
  rcases hu with ⟨hidle, _, hexec⟩ | ⟨_, rfl⟩
  · exact sequencerOk_exec (s := s.clearPulses) (decodeCommand_isCommand _) hidle hclear hexec
  · exact sequencerOk_stepSequencer hclear

/-- The response registers are clear unless the cycle itself answers, so what they held before does not matter (R140). -/
theorem step_gives_responseOk {s t : State} (hr : s.input.rst = false) (h : step s = .next t) : ResponseOk t := by
  obtain ⟨u, rfl, hu⟩ := step_cases_of_noReset hr h
  rw [responseOk_clock_events]
  rcases hu with ⟨hidle, _, hexec⟩ | ⟨_, rfl⟩
  · exact responseOk_exec (s := s.clearPulses) (decodeCommand_isCommand _) hidle rfl rfl hexec
  · exact responseOk_stepSequencer rfl rfl

theorem step_gives_echoOk {s t : State} (hr : s.input.rst = false) (h : step s = .next t) : EchoOk t := by
  intro hsilent
  rcases step_echo hr h with ⟨_, _, hv, _⟩ | ⟨_, _, hc⟩
  · simp [hsilent] at hv
  · exact hc

theorem step_keeps_timeBitsOk {s t : State} (hr : s.input.rst = false) (h : step s = .next t) (hs : TimeBitsOk s) :
    TimeBitsOk t := by
  obtain ⟨hnow, hA, hB⟩ := hs
  obtain ⟨hcfg, _, hnow', hbtn⟩ := step_unitD hr h
  have hlast : ∀ k : ButtonId, (s.btn k).last < 2 ^ s.cfg.timeBits → (t.btn k).last < 2 ^ s.cfg.timeBits := by
    intro k hk
    rw [hbtn k]
    rcases nextButton_last (s.btn k) s.cfg s.now (buttonSample s.input k) with heq | heq <;> rw [heq]
    · exact hk
    · exact hnow
  rw [TimeBitsOk, hcfg, hnow']
  exact ⟨tickNow_lt _ _ _ hnow, hlast .a hA, hlast .b hB⟩

theorem step_keeps_buttonOk {s t : State} (hr : s.input.rst = false) (h : step s = .next t) (k : ButtonId)
    (hs : ButtonOk (s.btn k)) : ButtonOk (t.btn k) := by
  obtain ⟨_, _, _, hbtn⟩ := step_unitD hr h
  rw [hbtn k]
  exact buttonOk_nextButton _ _ _ hs

theorem step_gives_timerOk {s t : State} (hr : s.input.rst = false) (h : step s = .next t) : TimerOk t := by
  obtain ⟨hcfg, hpre, _⟩ := step_unitD hr h
  rw [TimerOk, hcfg, hpre]
  exact tickPre_le _ _

/-- Settles O48: reset loads R50's values, and without reset each clause is kept by the unit that owns its registers. -/
theorem everyStepKeepsTheInvariant : Obligations.EveryStepKeepsTheInvariant := by
  intro s t ⟨htime, hseq, _, _, _, hA, hB⟩ h
  cases hr : s.input.rst with
  | true =>
    rw [step_eq_reset hr h]
    exact registersOk_of_reset s.cfg s.inputs.tail (s.envTick + 1)
  | false =>
    exact ⟨step_keeps_timeBitsOk hr h htime, step_keeps_sequencerOk hr h hseq, step_gives_responseOk hr h,
      step_gives_echoOk hr h, step_gives_timerOk hr h, step_keeps_buttonOk hr h .a hA, step_keeps_buttonOk hr h .b hB⟩

/-! ### Recorded times and `NOW`: R51 (h), R207 -/

/-- Short of its wrap, the timer never goes back. -/
theorem le_tickNow (c : Params) (pre : Nat) {now : Nat} (h : now + 1 < 2 ^ c.timeBits) : now ≤ tickNow c pre now := by
  rcases Nat.lt_or_ge pre (c.usCycles - 1) with hin | hend
  · rw [tickNow_of_lt c pre now hin]
  · rw [tickNow_of_ge c pre now hend, Nat.mod_eq_of_lt h]
    exact Nat.le_succ now

/-- Settles O49: an accepted edge records the cycle's `NOW`, which lies after every earlier time, and the timer only counts up. -/
theorem recordedTimesStayBehindNow : Obligations.RecordedTimesStayBehindNow := by
  intro s t ⟨hA, hB⟩ hwrap h
  cases hr : s.input.rst with
  | true =>
    rw [step_eq_reset hr h]
    exact ⟨⟨Nat.le_refl _, Nat.le_refl _⟩, fun hr' => Bool.noConfusion hr'⟩
  | false =>
    obtain ⟨_, _, hnow, hbtn⟩ := step_unitD hr h
    have hforward : s.now ≤ t.now := hnow ▸ le_tickNow s.cfg s.pre hwrap
    have hlast : ∀ k : ButtonId, (s.btn k).last ≤ (t.btn k).last ∧ (t.btn k).last ≤ s.now := by
      intro k
      have hk : (s.btn k).last ≤ s.now := by cases k with | a => exact hA | b => exact hB
      rw [hbtn k]
      rcases nextButton_last (s.btn k) s.cfg s.now (buttonSample s.input k) with heq | heq <;> rw [heq]
      · exact ⟨Nat.le_refl _, hk⟩
      · exact ⟨hk, Nat.le_refl _⟩
    exact ⟨⟨(hlast .a).2.trans hforward, (hlast .b).2.trans hforward⟩, fun _ => ⟨hforward, fun k => (hlast k).1⟩⟩

/-! ### The widths of the counters: R30 -/

/-- Settles O50: the invariant bounds every counter by its parameter, and the defaults' bounds fit R30's widths. -/
theorem countersHaveTheirWidths : Obligations.CountersHaveTheirWidths := by
  intro s ⟨⟨hnow, hA, hB⟩, hseq, _, _, hpre, _⟩
  obtain ⟨hph, hgap⟩ := counters_le_of_sequencerOk hseq
  have hlast : ∀ k : ButtonId, (s.btn k).last < 2 ^ s.cfg.timeBits := fun k => by
    cases k with
    | a => exact hA
    | b => exact hB
  unfold TimerOk at hpre
  refine ⟨fun ⟨hbitPos, hgapPos, husPos⟩ => by omega, hnow, hlast, fun hcfg => ?_⟩
  simp only [hcfg, Config.defaults_bitCycles, Config.defaults_gapCycles, Config.defaults_usCycles,
    Config.defaults_timeBits] at hph hgap hpre hnow hlast
  exact ⟨by omega, by omega, by omega, hnow, hlast⟩

end Sys2Proof.Proofs
end

section
/-! PROOFS. The framebuffer and its agents, 20_memory.md: the layout and the frame (R71, R72), the commands repeated (R78) and the
independence of Unit M and Unit D (R84). -/

namespace Sys2Proof.Proofs

open Sys2Proof Sys2Proof.Machine

/-! ### The layout and the frame: R71, R72 -/

/-- Settles O46: row and column are the quotient and the remainder of the index by the side. -/
theorem cellPlacesAreRowMajor : Obligations.CellPlacesAreRowMajor := by
  refine ⟨fun i hi => ⟨rfl, rfl, ?place⟩, fun r c hr hc => ⟨rfl, ?index⟩⟩
  case place =>
    simp only [cellRow, cellColumn, cellIndex, Config.side]
    omega
  case index =>
    simp only [cellRow, cellColumn, cellIndex, Config.side]
    omega

theorem frameBits_getElem? (fb : Framebuffer) {j : Nat} (hj : j < 600) : (frameBits fb)[j]? = some (frameBit fb j) := by
  simp [frameBits, hj]

/-- R72's bit of the frame, counted from the top of its cell. -/
theorem frameBit_eq_getMsbD (fb : Framebuffer) (j : Nat) : frameBit fb j = (readCell fb (j / 24)).getMsbD (j % 24) := by
  have hbit : j % 24 < 24 := Nat.mod_lt _ (by decide)
  simp [frameBit, BitVec.getMsbD_eq_getLsbD, hbit]

/-- Settles O43: cell after cell, most significant bit first, is the order both in the joined cells and in the frame. -/
theorem frameIsTheWholeFramebufferMsbFirst : Obligations.FrameIsTheWholeFramebufferMsbFirst := by
  intro fb
  refine ⟨joinCells fb 0 25, memRead_of_le fb (Nat.le_refl 25), fun j hj => ?_⟩
  rw [frameBits_getElem? fb hj, frameBit_eq_getMsbD, joinCells_getMsbD fb 0 25 j hj, Nat.zero_add]

/-! ### The same command twice: R78 -/

theorem writeCell_writeCell (fb : Framebuffer) (i : Nat) (p : Pixel) :
    writeCell (writeCell fb i p) i p = writeCell fb i p := by
  ext1 j hj
  rw [writeCell_getElem _ i p j hj, writeCell_getElem fb i p j hj]
  split <;> rfl

/-- Settles O12: a second write of the same cells, or a second error, finds nothing left to change. -/
theorem setClearGlyphAreIdempotent : Obligations.SetClearGlyphAreIdempotent := by
  intro s idx pix d
  refine ⟨?set, rfl, ?glyph⟩
  case set =>
    rcases Nat.lt_or_ge idx.toNat 25 with hin | hout
    · rw [exec_set_of_lt idx pix s hin, andThen_next, exec_set_of_lt idx pix _ hin, State.respond_fb, State.writeFb_fb,
        writeCell_writeCell]
      rfl
    · rw [exec_set_of_ge idx pix s hout, andThen_next, exec_set_of_ge idx pix _ hout]
      rfl
  case glyph =>
    rcases Nat.lt_or_ge d.toNat 10 with hdigit | hother
    · rw [exec_glyph_of_lt d s hdigit, andThen_next, exec_glyph_of_lt d _ hdigit]
      rfl
    · rw [exec_glyph_of_ge d s hother, andThen_next, exec_glyph_of_ge d _ hother]
      rfl

/-! ### Unit D exchanged under Unit M: R84 -/

/-- Unit M and the parameters of `s` beside Unit D and the environment of `d`. -/
def withUnitD (d s : State) : State :=
  { s with
    btnA := d.btnA
    btnB := d.btnB
    now := d.now
    pre := d.pre
    refv := d.refv
    inputs := d.inputs
    envTick := d.envTick }

theorem sameUnitM_withUnitD (d s : State) : SameUnitM s (withUnitD d s) :=
  ⟨rfl, rfl, rfl, rfl, rfl, rfl, rfl, rfl, rfl, rfl⟩

/-- Where two states of one machine agree on Unit M, one is the other with Unit D and the environment exchanged. -/
theorem eq_withUnitD_of_sameUnitM {s t : State} (hcfg : s.cfg = t.cfg) (h : SameUnitM s t) : t = withUnitD t s := by
  obtain ⟨hfb, htxs, hpix, hbitidx, hph, hgapcnt, hrspv, hrspc, hechov, hechoc⟩ := h
  simp [withUnitD, hcfg, hfb, htxs, hpix, hbitidx, hph, hgapcnt, hrspv, hrspc, hechov, hechoc]

/-- A command neither reads nor writes Unit D. -/
theorem exec_withUnitD {i : Instr} {s u : State} (d : State) (hi : i.isCommand = true) (h : exec i s = .next u) :
    exec i (withUnitD d s) = .next (withUnitD d u) := by
  cases i with
  | set idx pix =>
    rcases Nat.lt_or_ge idx.toNat 25 with hin | hout
    · rw [exec_set_of_lt idx pix _ hin] at h ⊢
      cases h
      rfl
    · rw [exec_set_of_ge idx pix _ hout] at h ⊢
      cases h
      rfl
  | glyph b =>
    rcases Nat.lt_or_ge b.toNat 10 with hdigit | hother
    · rw [exec_glyph_of_lt b _ hdigit] at h ⊢
      cases h
      rfl
    · rw [exec_glyph_of_ge b _ hother] at h ⊢
      cases h
      rfl
  | clear | flush | byte _ | reserved0 | reserved6 | reserved7 => cases h; rfl
  | edgeA | edgeB => cases hi

/-- Neither does the sequencer. -/
theorem stepSequencer_withUnitD (d s : State) : (withUnitD d s).stepSequencer = withUnitD d s.stepSequencer := by
  cases htxs : s.txs with
  | idle => rw [stepSequencer_of_idle htxs, stepSequencer_of_idle (by exact htxs)]
  | shift =>
    rw [stepSequencer_of_shift htxs, stepSequencer_of_shift (by exact htxs)]
    simp only [State.stepShift, apply_ite (withUnitD d)]
    rfl
  | gap =>
    rw [stepSequencer_of_gap htxs, stepSequencer_of_gap (by exact htxs)]
    simp only [State.stepGap, apply_ite (withUnitD d)]
    rfl

/-! ### The event operations, and commands beside them: R84 -/

theorem debounce_a_eq (s : State) : s.debounce .a =
    { s with
      btnA := if s.btnA.pass s.cfg s.now then s.btnA.accept s.now else s.btnA
      refv := s.refv || s.btnA.pass s.cfg s.now } := by
  rcases s.debounce_cases .a with ⟨hpass, h⟩ | ⟨hpass, h⟩ <;> rw [State.btn_a] at hpass <;>
    simp [h, hpass, State.setBtn, State.emitRefresh]

theorem debounce_b_eq (s : State) : s.debounce .b =
    { s with
      btnB := if s.btnB.pass s.cfg s.now then s.btnB.accept s.now else s.btnB
      refv := s.refv || s.btnB.pass s.cfg s.now } := by
  rcases s.debounce_cases .b with ⟨hpass, h⟩ | ⟨hpass, h⟩ <;> rw [State.btn_b] at hpass <;>
    simp [h, hpass, State.setBtn, State.emitRefresh]

/-- The handler of a button works on Unit D alone, whatever Unit M holds beside it. -/
theorem debounce_withUnitD {d s : State} (k : ButtonId) (hcfg : s.cfg = d.cfg) :
    (withUnitD d s).debounce k = withUnitD (d.debounce k) s := by
  cases k with
  | a => rw [debounce_a_eq, debounce_a_eq, ← hcfg]; rfl
  | b => rw [debounce_b_eq, debounce_b_eq, ← hcfg]; rfl

/-- The handler of a button leaves Unit M and the parameters. -/
theorem debounce_eq_withUnitD (k : ButtonId) (s : State) : s.debounce k = withUnitD (s.debounce k) s :=
  debounce_withUnitD (d := s) k rfl

/-- A command leaves Unit D, the environment and the parameters. -/
theorem exec_eq_withUnitD {i : Instr} {s u : State} (hi : i.isCommand = true) (h : exec i s = .next u) :
    u.cfg = s.cfg ∧ u = withUnitD s u := by
  obtain ⟨hA, hB, hnow, hpre, hrefv, hcfg, hinputs, henv, _⟩ := exec_command_frame i s u hi h
  simp [withUnitD, State.ext_iff, hA, hB, hnow, hpre, hrefv, hcfg, hinputs, henv]

/-- A command does after a button's handler what it does before it. -/
theorem exec_debounce {i : Instr} {s u : State} (k : ButtonId) (hi : i.isCommand = true) (h : exec i s = .next u) :
    exec i (s.debounce k) = .next (u.debounce k) := by
  obtain ⟨hcfg, hu⟩ := exec_eq_withUnitD hi h
  have hlate : u.debounce k = withUnitD (s.debounce k) u :=
    calc u.debounce k = (withUnitD s u).debounce k := congrArg (State.debounce k) hu
      _ = withUnitD (s.debounce k) u := debounce_withUnitD k hcfg
  rw [debounce_eq_withUnitD k s, hlate]
  exact exec_withUnitD (s.debounce k) hi h

/-- The two handlers own different buttons, and both only add to the refresh. -/
theorem debounce_comm (s : State) : (s.debounce .a).debounce .b = (s.debounce .b).debounce .a := by
  simp only [debounce_a_eq, debounce_b_eq, Bool.or_right_comm]

/-- Settles O13: Unit M and Unit D share no register, nor do the handlers of the two buttons but for the refresh. -/
theorem commandsAndEdgesCommute : Obligations.CommandsAndEdgesCommute := by
  intro s i hi
  obtain ⟨u, hu⟩ := exec_next i s
  refine ⟨?_, ?_, congrArg Host.Outcome.next (debounce_comm s)⟩ <;> rw [hu, andThen_next]
  · exact (exec_debounce .a hi hu).symm
  · exact (exec_debounce .b hi hu).symm

/-! ### Each unit's registers after a step depend on that unit alone: R84, R190 -/

/-- The event phases and the clock leave Unit M. -/
theorem sameUnitM_clock_events (x : Inputs) (u : State) : SameUnitM (clockPhase x (eventsDone u)) u := by
  rw [eventsDone_eq]
  exact ⟨rfl, rfl, rfl, rfl, rfl, rfl, rfl, rfl, rfl, rfl⟩

theorem sameUnitM_clock_events_iff (x y : Inputs) (u v : State) :
    SameUnitM (clockPhase x (eventsDone u)) (clockPhase y (eventsDone v)) ↔ SameUnitM u v := by
  rw [eventsDone_eq, eventsDone_eq]
  rfl

theorem acceptedCommand_congr {s t : State} {x y : Inputs} (htxs : s.txs = t.txs) (hr : x.rst = y.rst)
    (hvalid : x.cmdValid = y.cmdValid) (hdata : x.cmdData = y.cmdData) : s.acceptedCommand x = t.acceptedCommand y := by
  have haccepts : s.accepts x = t.accepts y := by simp only [State.accepts, State.ready, htxs, hr, hvalid]
  rw [State.acceptedCommand, State.acceptedCommand, haccepts, hdata]

/-- Settles O30: acceptance, the command and the sequencer all give the same with Unit D exchanged. -/
theorem unitMIsIndependentOfUnitD : Obligations.UnitMIsIndependentOfUnitD := by
  intro s t s' t' hcfg ⟨hfb, htxs, hpix, hbitidx, hph, hgapcnt, _⟩ hrst hvalid hdata hs ht
  cases hr : s.input.rst with
  | true =>
    rw [step_eq_reset hr hs, step_eq_reset (hrst ▸ hr) ht]
    exact ⟨rfl, rfl, rfl, rfl, rfl, rfl, rfl, rfl, rfl, rfl⟩
  | false =>
    have hclear : t.clearPulses = withUnitD t.clearPulses s.clearPulses :=
      eq_withUnitD_of_sameUnitM hcfg ⟨hfb, htxs, hpix, hbitidx, hph, hgapcnt, rfl, rfl, rfl, rfl⟩
    have hcmd : s.acceptedCommand s.input = t.acceptedCommand t.input :=
      acceptedCommand_congr htxs hrst hvalid hdata
    obtain ⟨u, rfl, hu⟩ := step_cases_of_noReset hr hs
    obtain ⟨v, rfl, hv⟩ := step_cases_of_noReset (hrst ▸ hr) ht
    rw [sameUnitM_clock_events_iff]
    suffices hvu : v = withUnitD t.clearPulses u from hvu ▸ sameUnitM_withUnitD _ u
    rcases hu with ⟨_, hsome, hexec⟩ | ⟨hnone, rfl⟩ <;> rcases hv with ⟨_, hsome', hexec'⟩ | ⟨hnone', rfl⟩
    · rw [← hdata, hclear, exec_withUnitD _ (decodeCommand_isCommand _) hexec] at hexec'
      exact (Host.Outcome.next.inj hexec').symm
    · simp [hcmd, hnone'] at hsome
    · simp [← hcmd, hnone] at hsome'
    · rw [hclear, stepSequencer_withUnitD]
      rfl

/-- Two states agree on everything but Unit M's registers. -/
def SameBesideUnitM (s t : State) : Prop :=
  SameUnitD s t ∧ s.cfg = t.cfg ∧ s.inputs = t.inputs ∧ s.envTick = t.envTick

/-- Without reset Unit M's part of a cycle leaves a state `u` in which all that is not Unit M's is as the cycle began. -/
theorem step_cases_with_frame {s t : State} (hr : s.input.rst = false) (h : step s = .next t) :
    ∃ u, t = clockPhase s.input (eventsDone u) ∧ SameBesideUnitM u s.clearPulses ∧
      ((s.txs = .idle ∧ s.acceptedCommand s.input = some (decodeCommand s.input.cmdData) ∧
          exec (decodeCommand s.input.cmdData) s.clearPulses = .next u) ∨
        (s.acceptedCommand s.input = none ∧ u = s.clearPulses.stepSequencer)) := by
  obtain ⟨u, ht, hu⟩ := step_cases_of_noReset hr h
  refine ⟨u, ht, ?_, hu⟩
  rcases hu with ⟨_, _, hexec⟩ | ⟨_, rfl⟩
  · obtain ⟨hA, hB, hnow, hpre, hrefv, hcfg, hinputs, henv, _⟩ :=
      exec_command_frame _ _ _ (decodeCommand_isCommand _) hexec
    exact ⟨⟨hA, hB, hnow, hpre, hrefv⟩, hcfg, hinputs, henv⟩
  · rw [stepSequencer_frame]
    exact ⟨⟨rfl, rfl, rfl, rfl, rfl⟩, rfl, rfl, rfl⟩

/-- A refresh is asked for after a step without reset exactly when an edge was accepted in it (R201, R203). -/
theorem step_refv {s t : State} (hr : s.input.rst = false) (h : step s = .next t) :
    t.refv = (s.btnA.acc s.cfg s.now || s.btnB.acc s.cfg s.now) := by
  obtain ⟨u, rfl, ⟨⟨hA, hB, hnow, _, hrefv⟩, hcfg, _⟩, _⟩ := step_cases_with_frame hr h
  simp [eventsDone_eq, clockPhase, hA, hB, hnow, hcfg, hrefv]

/-- Settles O31: the timer, both buttons and the refresh after a step are given in terms of Unit D and the samples. -/
theorem unitDIsIndependentOfUnitM : Obligations.UnitDIsIndependentOfUnitM := by
  rintro s t s' t' hcfg ⟨hA, hB, hnow, hpre, _⟩ hrst hbtnsA hbtnsB hs ht
  cases hr : s.input.rst with
  | true =>
    rw [step_eq_reset hr hs, step_eq_reset (hrst ▸ hr) ht]
    exact ⟨rfl, rfl, rfl, rfl, rfl⟩
  | false =>
    have hr' : t.input.rst = false := hrst ▸ hr
    obtain ⟨_, hpre_s, hnow_s, hbtn_s⟩ := step_unitD hr hs
    obtain ⟨_, hpre_t, hnow_t, hbtn_t⟩ := step_unitD hr' ht
    have hbtnA : s'.btnA = t'.btnA :=
      calc s'.btnA = nextButton s.btnA s.cfg s.now s.input.btnsA := hbtn_s .a
        _ = nextButton t.btnA t.cfg t.now t.input.btnsA := by rw [hA, hcfg, hnow, hbtnsA]
        _ = t'.btnA := (hbtn_t .a).symm
    have hbtnB : s'.btnB = t'.btnB :=
      calc s'.btnB = nextButton s.btnB s.cfg s.now s.input.btnsB := hbtn_s .b
        _ = nextButton t.btnB t.cfg t.now t.input.btnsB := by rw [hB, hcfg, hnow, hbtnsB]
        _ = t'.btnB := (hbtn_t .b).symm
    refine ⟨hbtnA, hbtnB, ?now, ?pre, ?refv⟩
    case now => rw [hnow_s, hnow_t, hcfg, hpre, hnow]
    case pre => rw [hpre_s, hpre_t, hcfg, hpre]
    case refv => rw [step_refv hr hs, step_refv hr' ht, hA, hB, hcfg, hnow]

end Sys2Proof.Proofs
end

section
/-! PROOFS. The two levels of description, 20_memory.md R90: each operation at the cycle level is its transaction, a cycle is the
transactions of its operations in order, and so is a run; and the ports begin to show what the transactions give. -/

namespace Sys2Proof.Proofs

open Sys2Proof Sys2Proof.Machine

/-! ### The commands as transactions -/

theorem writeCell_of_lt (fb : Framebuffer) {i : Nat} (p : Pixel) (h : i < 25) : writeCell fb i p = fb.set i p h := by
  ext1 j hj
  rw [writeCell_getElem fb i p j hj, Vector.getElem_set]

theorem transact_set_of_lt (p : Params) (idx : BitVec 5) (pix : Pixel) (now : Nat) (t : TxnState) (h : idx.toNat < 25) :
    transact p (.set idx pix) now t = ({ t with fb := writeCell t.fb idx.toNat pix }, [.respond .ok]) := by
  rw [transact, dif_pos h, writeCell_of_lt t.fb pix h]

theorem transact_set_of_ge (p : Params) (idx : BitVec 5) (pix : Pixel) (now : Nat) (t : TxnState) (h : 25 ≤ idx.toNat) :
    transact p (.set idx pix) now t = (t, [.respond .outOfRange]) :=
  dif_neg (Nat.not_lt_of_le h)

theorem transact_glyph_of_lt (p : Params) (d : Byte) (now : Nat) (t : TxnState) (h : d.toNat < 10) :
    transact p (.glyph d) now t = ({ t with fb := (glyphRom ⟨d.toNat, h⟩).image }, [.respond .ok]) :=
  dif_pos h

theorem transact_glyph_of_ge (p : Params) (d : Byte) (now : Nat) (t : TxnState) (h : 10 ≤ d.toNat) :
    transact p (.glyph d) now t = (t, [.respond .invalidDigit]) :=
  dif_neg (Nat.not_lt_of_le h)

theorem transact_byte (p : Params) (c : Byte) (now : Nat) (t : TxnState) :
    transact p (.byte c) now t = ({ t with fb := byteImage c }, .echo c :: transmit (byteImage c)) := by
  by_cases h : 0x30 ≤ c.toNat ∧ c.toNat ≤ 0x39
  · simp only [transact, byteImage_of_digit c h, dif_pos h]
  · simp only [transact, byteImage_of_not_digit c h, dif_neg h]

/-- A command does to the framebuffer and the Button States what its transaction does, at any time. -/
theorem exec_command_abs {i : Instr} {s u : State} (p : Params) (now : Nat) (hi : i.isCommand = true)
    (h : exec i s = .next u) : u.abs = (transact p i now s.abs).1 := by
  cases i with
  | set idx pix =>
    rcases Nat.lt_or_ge idx.toNat 25 with hin | hout
    · rw [exec_set_of_lt idx pix s hin] at h
      cases h
      rw [transact_set_of_lt p idx pix now _ hin]
      rfl
    · rw [exec_set_of_ge idx pix s hout] at h
      cases h
      rw [transact_set_of_ge p idx pix now _ hout]
      rfl
  | glyph d =>
    rcases Nat.lt_or_ge d.toNat 10 with hdigit | hother
    · rw [exec_glyph_of_lt d s hdigit] at h
      cases h
      rw [transact_glyph_of_lt p d now _ hdigit]
      rfl
    · rw [exec_glyph_of_ge d s hother] at h
      cases h
      rw [transact_glyph_of_ge p d now _ hother]
      rfl
  | byte c =>
    cases h
    rw [transact_byte]
    rfl
  | clear | flush | reserved0 | reserved6 | reserved7 => cases h; rfl
  | edgeA | edgeB => cases hi

/-- A command that does not transmit gives its answer and nothing else. -/
theorem transact_effects_of_not_transmits {i : Instr} (p : Params) (now : Nat) (t : TxnState) (hi : i.isCommand = true)
    (hno : i.transmits = false) : (transact p i now t).2 = [.respond (answerOf i)] := by
  cases i with
  | set idx pix =>
    rcases Nat.lt_or_ge idx.toNat 25 with hin | hout
    · rw [transact_set_of_lt p idx pix now t hin, answerOf, if_neg (by omega)]
    · rw [transact_set_of_ge p idx pix now t hout, answerOf, if_pos hout]
  | glyph d =>
    rcases Nat.lt_or_ge d.toNat 10 with hdigit | hother
    · rw [transact_glyph_of_lt p d now t hdigit, answerOf, if_neg (by omega)]
    · rw [transact_glyph_of_ge p d now t hother, answerOf, if_pos hother]
  | clear | reserved0 | reserved6 | reserved7 => rfl
  | flush | byte _ => cases hno
  | edgeA | edgeB => cases hi

/-! ### The detected edges as transactions -/

/-- The event operation of a button (R110). -/
def eventOf : ButtonId → Instr
  | .a => .edgeA
  | .b => .edgeB

/-- The transaction's guard and updates are those of the button's registers (R198, R199). -/
theorem abs_edge (b : ButtonRegs) (c : Params) (now : Nat) :
    b.abs.edge c now = if b.pass c now then some (b.accept now).abs else none := by
  unfold ButtonState.edge
  exact if_congr (b.pass_iff c now).symm rfl rfl

theorem debounce_abs (k : ButtonId) (s : State) : (s.debounce k).abs = (transact s.cfg (eventOf k) s.now s.abs).1 := by
  cases k with
  | a =>
    have hedge : s.abs.a.edge s.cfg s.now = _ := abs_edge s.btnA s.cfg s.now
    rw [debounce_a_eq]
    simp only [eventOf, transact, hedge]
    cases hpass : s.btnA.pass s.cfg s.now <;> rfl
  | b =>
    have hedge : s.abs.b.edge s.cfg s.now = _ := abs_edge s.btnB s.cfg s.now
    rw [debounce_b_eq]
    simp only [eventOf, transact, hedge]
    cases hpass : s.btnB.pass s.cfg s.now <;> rfl

/-- The event phase of one button, as a function of the state (`eventPhase_eq`). -/
def eventDone (k : ButtonId) (s : State) : State := if (s.btn k).fall then s.debounce k else s

theorem eventsDone_eq_eventDone (s : State) : eventsDone s = eventDone .b (eventDone .a s) := rfl

/-- The part of `operationsOf` that one button gives. -/
def edgeOperations (k : ButtonId) (s : State) : List (Instr × Nat) :=
  if (s.btn k).fall then [(eventOf k, s.now)] else []

theorem eventDone_abs (k : ButtonId) (s : State) :
    (eventDone k s).abs = transactAll s.cfg (edgeOperations k s) s.abs := by
  unfold eventDone edgeOperations
  split
  · exact debounce_abs k s
  · rfl

theorem edgeOperations_congr {k : ButtonId} {s u : State} (hbtn : u.btn k = s.btn k) (hnow : u.now = s.now) :
    edgeOperations k u = edgeOperations k s := by
  rw [edgeOperations, edgeOperations, hbtn, hnow]

/-- Button A's event is nothing to button B's. -/
theorem eventDone_a_frame (s : State) :
    (eventDone .a s).cfg = s.cfg ∧ edgeOperations .b (eventDone .a s) = edgeOperations .b s := by
  unfold eventDone
  split
  · rw [debounce_a_eq]
    exact ⟨rfl, rfl⟩
  · exact ⟨rfl, rfl⟩

theorem transactAll_append (p : Params) (xs ys : List (Instr × Nat)) (t : TxnState) :
    transactAll p (xs ++ ys) t = transactAll p ys (transactAll p xs t) := by
  induction xs generalizing t with
  | nil => rfl
  | cons x xs ih => exact ih (transact p x.1 x.2 t).1

theorem eventsDone_abs (s : State) :
    (eventsDone s).abs = transactAll s.cfg (edgeOperations .a s ++ edgeOperations .b s) s.abs := by
  obtain ⟨hcfg, hops⟩ := eventDone_a_frame s
  rw [eventsDone_eq_eventDone, eventDone_abs, hcfg, hops, eventDone_abs, transactAll_append]

/-! ### One cycle as the transactions of its operations -/

theorem operationsOf_of_some {s : State} {i : Instr} (h : s.acceptedCommand s.input = some i) :
    operationsOf s = (i, s.now) :: (edgeOperations .a s ++ edgeOperations .b s) := by
  rw [operationsOf, h]
  rfl

theorem operationsOf_of_none {s : State} (h : s.acceptedCommand s.input = none) :
    operationsOf s = edgeOperations .a s ++ edgeOperations .b s := by
  rw [operationsOf, h]
  rfl

/-- The flops, the timer and the environment are below the transaction level. -/
theorem clockPhase_abs (x : Inputs) (s : State) : (clockPhase x s).abs = s.abs := rfl

theorem step_abs {s t : State} (hr : s.input.rst = false) (h : step s = .next t) :
    t.abs = transactAll s.cfg (operationsOf s) s.abs := by
  obtain ⟨u, rfl, ⟨⟨hA, hB, hnow, _⟩, hcfg, _⟩, hu⟩ := step_cases_with_frame hr h
  have hedges : ∀ k, edgeOperations k u = edgeOperations k s := by
    intro k
    cases k with
    | a => exact edgeOperations_congr hA hnow
    | b => exact edgeOperations_congr hB hnow
  rw [clockPhase_abs, eventsDone_abs, hedges, hedges, hcfg]
  rcases hu with ⟨_, hcmd, hexec⟩ | ⟨hcmd, rfl⟩
  · rw [operationsOf_of_some hcmd, exec_command_abs s.cfg s.now (decodeCommand_isCommand _) hexec]
    rfl
  · rw [operationsOf_of_none hcmd, stepSequencer_frame]
    rfl

/-! ### A run as the transactions of its operations -/

/-- Every cycle has a next state (R280). -/
theorem step_next (s : State) : ∃ t, step s = .next t := by
  cases hr : s.input.rst with
  | true => exact ⟨_, if_pos hr⟩
  | false =>
    have hphase : ∃ u, unitMPhase s.input s.clearPulses = .next u := by
      unfold unitMPhase
      split
      · exact exec_next _ _
      · exact ⟨_, rfl⟩
    obtain ⟨u, hu⟩ := hphase
    have hcycle : step s = runCycle s.input s := if_neg (by simp [hr])
    exact ⟨_, hcycle.trans (runCycle_eq s.input s u hu)⟩

/-- A cycle without reset uses up its inputs, and leaves those of the cycles after it. -/
theorem noReset_of_step {n : Nat} {s t : State} (hno : NoReset (n + 1) s) (h : step s = .next t) : NoReset n t := by
  obtain ⟨u, rfl, ⟨_, _, hinputs, henv⟩, _⟩ := step_cases_with_frame (noReset_input n s hno) h
  intro m hm
  rw [inputAt_of_tail s _ m]
  · exact hno (m + 1) (Nat.succ_lt_succ hm)
  · simp [eventsDone_eq, clockPhase, hinputs]
  · simp [eventsDone_eq, clockPhase, henv]

theorem operationsAlong_succ_of_step (n : Nat) {s t : State} (h : step s = .next t) :
    operationsAlong (n + 1) s = operationsOf s ++ operationsAlong n t := by
  simp only [operationsAlong, h]

/-- Settles O57, by induction on the number of cycles: each cycle is the transactions of its operations. -/
theorem cycleLevelRefinesTransactions : Obligations.CycleLevelRefinesTransactions := by
  intro n
  induction n with
  | zero => exact fun s _ => ⟨s, rfl, rfl⟩
  | succ n ih =>
    intro s hno
    have hr : s.input.rst = false := noReset_input n s hno
    obtain ⟨v, hv⟩ := step_next s
    obtain ⟨t, hrun, habs⟩ := ih v (noReset_of_step hno hv)
    obtain ⟨hcfg, _⟩ := step_unitD hr hv
    refine ⟨t, (stateAfter_succ_of_step n s v hv).trans hrun, ?_⟩
    rw [operationsAlong_succ_of_step n hv, transactAll_append, ← step_abs hr hv, ← hcfg]
    exact habs

/-! ### What an accepted command shows on the ports -/

/-- After a cycle with an accepted command Unit M is as the command leaves it. -/
theorem step_of_acceptedCommand {s t : State} {i : Instr} (hcmd : s.acceptedCommand s.input = some i)
    (h : step s = .next t) :
    s.txs = .idle ∧ i.isCommand = true ∧ ∃ u, exec i s.clearPulses = .next u ∧ SameUnitM t u := by
  have hr : s.input.rst = false := by
    by_contra hreset
    simp [State.acceptedCommand, State.accepts, hreset] at hcmd
  obtain ⟨u, rfl, ⟨hidle, hcmd', hexec⟩ | ⟨hnone, _⟩⟩ := step_cases_of_noReset hr h
  · obtain rfl : decodeCommand s.input.cmdData = i := Option.some.inj (hcmd'.symm.trans hcmd)
    exact ⟨hidle, decodeCommand_isCommand _, u, hexec, sameUnitM_clock_events _ u⟩
  · simp [hnone] at hcmd

theorem dout_of_idle {s : State} (h : s.txs = .idle) : s.outputs.dout = false := by
  simp [State.outputs, State.dout, h]

theorem position_of_start {s : State} (hpix : s.pix = 0) (hbitidx : s.bitidx = 23) (hph : s.ph = 0) :
    s.position = 0 := by
  simp [State.position, hpix, hbitidx, hph]

/-- Settles O58: the next cycle's ports show Unit M as the command leaves it, and that is its transaction's first effects. -/
theorem portsShowTheTransactionsEffects : Obligations.PortsShowTheTransactionsEffects := by
  intro s t i hcmd h
  obtain ⟨hidle, hi, u, hexec, hfb, htxs, hpix, hbitidx, hph, _, hrspv, hrspc, hechov, hechoc⟩ :=
    step_of_acceptedCommand hcmd h
  rcases exec_command_cases hi hexec with ⟨hno, fb, rfl⟩ | ⟨rfl, rfl⟩ | ⟨c, rfl, rfl⟩
  · refine ⟨fun _ => ?_, fun hsends => ?_, ?_, ?_⟩
    · exact ⟨answerOf i, transact_effects_of_not_transmits s.cfg s.now s.abs hi hno, hrspv, hrspc, htxs,
        dout_of_idle (htxs.trans hidle), hechov⟩
    · simp [hno] at hsends
    · rintro rfl
      cases hno
    · rintro c rfl
      cases hno
  · refine ⟨fun hno => ?_, fun _ => ⟨hrspv, htxs, position_of_start hpix hbitidx hph⟩, fun _ => ⟨?_, hechov⟩, ?_⟩
    · cases hno
    · rw [hfb]
      rfl
    · rintro c ⟨⟩
  · refine ⟨fun hno => ?_, fun _ => ⟨hrspv, htxs, position_of_start hpix hbitidx hph⟩, ?_, ?_⟩
    · cases hno
    · rintro ⟨⟩
    · rintro c' hbyte
      obtain rfl : c = c' := Instr.byte.inj hbyte
      rw [transact_byte, hfb]
      exact ⟨rfl, hechov, hechoc⟩

end Sys2Proof.Proofs
end

section
/-! PROOFS. The encodings of 30_encoding.md: the operands in a command word (R104 to R106), the canonical words and the ignored
bits (R102, R114, R119), the opcode map (R103), the edge flops (R110) and the assembler's words (R117, R118). -/

namespace Sys2Proof.Proofs

open Sys2Proof Sys2Proof.Machine

/-! ### Decode of encode: R104, R106, R119 -/

theorem idxField_commandWord (op : BitVec 3) (idx : BitVec 5) (pix : Pixel) :
    idxField (commandWord op (idx ++ pix)) = idx := by
  apply BitVec.eq_of_toNat_eq
  rw [idxField_toNat, commandWord_toNat, append_toNat]
  omega

theorem pixField_commandWord (op : BitVec 3) (idx : BitVec 5) (pix : Pixel) :
    pixField (commandWord op (idx ++ pix)) = pix := by
  apply BitVec.eq_of_toNat_eq
  rw [pixField_toNat, commandWord_toNat, append_toNat]
  omega

theorem imm8Field_commandWord (op : BitVec 3) (d : Byte) : imm8Field (commandWord op (d.setWidth 29)) = d := by
  apply BitVec.eq_of_toNat_eq
  rw [imm8Field_toNat, commandWord_toNat, BitVec.toNat_setWidth]
  omega

theorem decodeCommand_set_word (idx : BitVec 5) (pix : Pixel) :
    decodeCommand (commandWord 1 (idx ++ pix)) = .set idx pix := by
  rw [decodeCommand, opField_commandWord]
  exact congrArg₂ Instr.set (idxField_commandWord 1 idx pix) (pixField_commandWord 1 idx pix)

theorem decodeCommand_glyph_word (d : Byte) : decodeCommand (commandWord 4 (d.setWidth 29)) = .glyph d := by
  rw [decodeCommand, opField_commandWord]
  exact congrArg Instr.glyph (imm8Field_commandWord 4 d)

theorem decodeCommand_byte_word (c : Byte) : decodeCommand (commandWord 5 (c.setWidth 29)) = .byte c := by
  rw [decodeCommand, opField_commandWord]
  exact congrArg Instr.byte (imm8Field_commandWord 5 c)

theorem decode_encode (i : Instr) : decode (encode i) = .ok i := by
  cases i with
  | set idx pix => exact congrArg Except.ok (decodeCommand_set_word idx pix)
  | glyph d => exact congrArg Except.ok (decodeCommand_glyph_word d)
  | byte c => exact congrArg Except.ok (decodeCommand_byte_word c)
  | clear | flush | reserved0 | reserved6 | reserved7 => rfl
  | edgeA | edgeB => rfl

/-- Exactly the commands have a word; an event operation stands for a pattern of the edge flops (R110). -/
theorem isCommand_iff_encode_word (i : Instr) : i.isCommand = true ↔ ∃ w, encode i = .word w := by
  cases i with
  | set _ _ | clear | flush | glyph _ | byte _ | reserved0 | reserved6 | reserved7 =>
    exact ⟨fun _ => ⟨_, rfl⟩, fun _ => rfl⟩
  | edgeA | edgeB => exact ⟨fun h => Bool.noConfusion h, fun ⟨_, h⟩ => Selector.noConfusion h⟩

/-- Settles O16, operation by operation: the fields of the word built from the operands are the operands. -/
theorem decodeOfEncodeIsTheInstruction : Obligations.DecodeOfEncodeIsTheInstruction :=
  fun i => ⟨decode_encode i, isCommand_iff_encode_word i⟩

/-- Settles O15: each of the words is evaluated. -/
theorem writtenOutWordsDecode : Obligations.WrittenOutWordsDecode := ⟨rfl, rfl, rfl, rfl, rfl, rfl, rfl, rfl⟩

/-! ### Encode of decode: R102, R114, R119 -/

/-- The ignored bits among the low 29, by the `op` they stand below (R102, R113). -/
def ignoredLow (op : BitVec 3) : BitVec 29 :=
  match op.toNat with
  | 1 => 0#29
  | 4 | 5 => 0x1FFFFF00#29
  | _ => BitVec.allOnes 29

theorem opField_eq {w : CmdWord} {n : Nat} (h : (opField w).toNat = n) : opField w = BitVec.ofNat 3 n := by
  rw [← h, BitVec.ofNat_toNat, BitVec.setWidth_eq]

/-- The bits ignored for a word are the same for every word with its `op`, and `op` is not among them. -/
theorem ignoredBits_decodeCommand (w : CmdWord) :
    ignoredBits (decodeCommand w) = commandWord 0 (ignoredLow (opField w)) := by
  rcases decodeCommand_cases w with
    ⟨hop, hd⟩ | ⟨hop, hd⟩ | ⟨hop, hd⟩ | ⟨hop, hd⟩ | ⟨hop, hd⟩ | ⟨hop, hd⟩ | ⟨hop, hd⟩ | ⟨hop, hd⟩ <;>
    rw [hd, opField_eq hop] <;> rfl

/-- A word with bits below `op` cleared keeps its `op`. -/
theorem and_not_eq_commandWord (w : CmdWord) (m : BitVec 29) :
    w &&& ~~~(commandWord 0 m) = commandWord (opField w) (w.setWidth 29 &&& ~~~m) := by
  have hnot : ~~~(commandWord 0 m) = commandWord 7 (~~~m) := BitVec.not_append
  have hop : opField w &&& 7#3 = opField w := BitVec.and_allOnes
  calc w &&& ~~~(commandWord 0 m)
      = commandWord (opField w) (w.setWidth 29) &&& commandWord 7 (~~~m) := by rw [hnot, commandWord_of_fields]
    _ = commandWord (opField w &&& 7#3) (w.setWidth 29 &&& ~~~m) := BitVec.and_append
    _ = commandWord (opField w) (w.setWidth 29 &&& ~~~m) := by rw [hop]

/-- The operands of SET fill the 29 bits: none is ignored. -/
theorem setWidth_and_eq_idx_append_pix (w : CmdWord) : w.setWidth 29 &&& ~~~0#29 = idxField w ++ pixField w := by
  have hall : w.setWidth 29 &&& ~~~0#29 = w.setWidth 29 := BitVec.and_allOnes
  apply BitVec.eq_of_toNat_eq
  rw [hall, append_toNat, idxField_toNat, pixField_toNat, BitVec.toNat_setWidth]
  omega

/-- The operand of GLYPH and BYTE is what their ignored bits leave. -/
theorem setWidth_and_eq_imm8 (w : CmdWord) : w.setWidth 29 &&& ~~~0x1FFFFF00#29 = (imm8Field w).setWidth 29 := by
  have hmask : (~~~0x1FFFFF00#29).toNat = 2 ^ 8 - 1 := by decide
  apply BitVec.eq_of_toNat_eq
  rw [BitVec.toNat_and, hmask, Nat.and_two_pow_sub_one_eq_mod, BitVec.toNat_setWidth, BitVec.toNat_setWidth, imm8Field_toNat]
  omega

theorem and_not_allOnes (low : BitVec 29) : low &&& ~~~(BitVec.allOnes 29) = 0#29 := by
  rw [BitVec.not_allOnes, BitVec.and_zero]

theorem encode_decodeCommand (w : CmdWord) :
    encode (decodeCommand w) = .word (w &&& ~~~(ignoredBits (decodeCommand w))) := by
  rw [ignoredBits_decodeCommand, and_not_eq_commandWord]
  rcases decodeCommand_cases w with
    ⟨hop, hd⟩ | ⟨hop, hd⟩ | ⟨hop, hd⟩ | ⟨hop, hd⟩ | ⟨hop, hd⟩ | ⟨hop, hd⟩ | ⟨hop, hd⟩ | ⟨hop, hd⟩ <;>
    rw [hd, opField_eq hop]
  · exact congrArg (Selector.word ∘ commandWord 0) (and_not_allOnes _).symm
  · exact congrArg (Selector.word ∘ commandWord 1) (setWidth_and_eq_idx_append_pix w).symm
  · exact congrArg (Selector.word ∘ commandWord 2) (and_not_allOnes _).symm
  · exact congrArg (Selector.word ∘ commandWord 3) (and_not_allOnes _).symm
  · exact congrArg (Selector.word ∘ commandWord 4) (setWidth_and_eq_imm8 w).symm
  · exact congrArg (Selector.word ∘ commandWord 5) (setWidth_and_eq_imm8 w).symm
  · exact congrArg (Selector.word ∘ commandWord 6) (and_not_allOnes _).symm
  · exact congrArg (Selector.word ∘ commandWord 7) (and_not_allOnes _).symm

/-- A decoded operation has one canonical selector, and it determines the operation. -/
theorem encode_injective {i j : Instr} (h : encode i = encode j) : i = j :=
  Except.ok.inj ((decode_encode i).symm.trans ((congrArg decode h).trans (decode_encode j)))

/-- Words that agree outside a mask agree with the masked bits cleared. -/
theorem and_eq_and_of_xor_and_eq_zero {w v m : CmdWord} (h : (w ^^^ v) &&& m = 0#32) : w &&& m = v &&& m := by
  apply BitVec.xor_eq_zero_iff.mp
  rw [← h]
  ext i hi
  simp only [BitVec.getElem_xor, BitVec.getElem_and, Bool.and_xor_distrib_right]

/-- Settles O17: both directions go through the canonical word; words that differ in ignored bits have the same one. -/
theorem encodeOfDecodeIsTheCanonicalWord : Obligations.EncodeOfDecodeIsTheCanonicalWord := by
  intro w v
  refine ⟨encode_decodeCommand w, fun hdiff => encode_injective ?_⟩
  have hagree := and_eq_and_of_xor_and_eq_zero hdiff
  have hop : opField v = opField w := by
    rw [ignoredBits_decodeCommand, and_not_eq_commandWord, and_not_eq_commandWord] at hagree
    rw [← opField_commandWord (opField v), ← hagree, opField_commandWord]
  have hignored : ignoredBits (decodeCommand v) = ignoredBits (decodeCommand w) := by
    rw [ignoredBits_decodeCommand, hop, ignoredBits_decodeCommand]
  rw [encode_decodeCommand, encode_decodeCommand, hignored, hagree]

/-! ### The opcode map: R103 -/

/-- Every row tests `op` and nothing else. -/
theorem opcodeRows_mask : ∀ r ∈ opcodeRows, r.mask = 0xE0000000#32 := by decide

/-- No two rows have one pattern. -/
theorem opcodeRows_pattern_inj : ∀ r ∈ opcodeRows, ∀ r' ∈ opcodeRows, r.pattern = r'.pattern → r = r' := by decide

/-- A word selects a row exactly when the row's pattern is the word's `op` above zeros. -/
theorem selects_iff {r : OpcodeRow} (hr : r ∈ opcodeRows) (w : CmdWord) :
    r.selects w = true ↔ r.pattern = opField w ++ 0#29 := by
  have hop : w &&& r.mask = opField w ++ 0#29 := by
    rw [opcodeRows_mask r hr, ← commandWord_and_mask (opField w) (w.setWidth 29), commandWord_of_fields]
  rw [OpcodeRow.selects, beq_iff_eq, hop, eq_comm]

/-- The row of a word's `op` has the mnemonic of its decoding. -/
theorem exists_opcodeRow (w : CmdWord) :
    ∃ r ∈ opcodeRows, r.pattern = opField w ++ 0#29 ∧ r.mnemonic = (decodeCommand w).mnemonic := by
  rcases decodeCommand_cases w with
    ⟨hop, hd⟩ | ⟨hop, hd⟩ | ⟨hop, hd⟩ | ⟨hop, hd⟩ | ⟨hop, hd⟩ | ⟨hop, hd⟩ | ⟨hop, hd⟩ | ⟨hop, hd⟩ <;>
    rw [hd, opField_eq hop] <;> simp only [Instr.mnemonic] <;> decide

/-- Settles O18: a row is selected by its pattern, and the patterns are the values of `op`, each once. -/
theorem exactlyOneOpcodeRowMatches : Obligations.ExactlyOneOpcodeRowMatches := by
  intro w
  obtain ⟨r, hr, hpattern, hmnemonic⟩ := exists_opcodeRow w
  refine ⟨r, hr, (selects_iff hr w).mpr hpattern, hmnemonic, fun r' hr' hsel => ?_⟩
  exact opcodeRows_pattern_inj r' hr' r hr (((selects_iff hr' w).mp hsel).trans hpattern.symm)

/-! ### The edge flops: R110, R197 -/

/-- Settles O19: a falling edge selects the event of its button, any other pair nothing. -/
theorem eventsAreSelectedByTheEdgeFlops : Obligations.EventsAreSelectedByTheEdgeFlops := by
  intro s3 s2
  have hselects : ∀ (k : ButtonId) (i : Instr),
      decode (.flops k s3 s2) = .ok i ↔ (s3 = true ∧ s2 = false) ∧ i = eventOf k := by
    intro k i
    show decodeEvent k s3 s2 = .ok i ↔ _
    rcases decodeEvent_cases k s3 s2 with ⟨h3, h2, hd⟩ | ⟨hno, hd⟩
    · rw [hd]
      cases k <;> simp [h3, h2, eventOf, eq_comm]
    · rw [hd]
      rcases hno with h | h <;> simp [h]
  refine ⟨?_, ?_, fun k i h => ?_⟩
  · simp [hselects .a, eventOf]
  · simp [hselects .b, eventOf]
  · exact ((hselects k i).mp h).2.trans (by cases k <;> rfl)

/-! ### The assembler: R117, R118 -/

/-- The words of a line are those of the operations it stands for. -/
theorem words_of_assemble {l : Line} {ops : List Instr} (h : l.assemble = some ops) :
    l.words = some (ops.filterMap encodeWord) :=
  congrArg (Option.map (List.filterMap encodeWord)) h

theorem words_of_not_wellFormed {l : Line} (h : ¬l.wellFormed = true) : l.words = none :=
  congrArg (Option.map (List.filterMap encodeWord)) (if_neg h)

theorem words_set {i p : Nat} (hi : i < 32) (hp : p < 2 ^ 24) :
    (Line.set i p).words = some [commandWord 1 (BitVec.ofNat 5 i ++ BitVec.ofNat 24 p)] :=
  words_of_assemble (if_pos (by simp only [Line.wellFormed, Bool.and_eq_true, decide_eq_true_eq]; omega))

theorem words_setGrb {i g r b : Nat} (hi : i < 32) (hg : g < 256) (hr : r < 256) (hb : b < 256) :
    (Line.setGrb i g r b).words = some [commandWord 1 (BitVec.ofNat 5 i ++ pixelOf g r b)] :=
  words_of_assemble (if_pos (by simp only [Line.wellFormed, Bool.and_eq_true, decide_eq_true_eq]; omega))

theorem words_glyph {d : Nat} (hd : d < 256) :
    (Line.glyph d).words = some [commandWord 4 ((BitVec.ofNat 8 d).setWidth 29)] :=
  words_of_assemble (if_pos (show (Line.glyph d).wellFormed = true from decide_eq_true hd))

theorem words_byte {c : Nat} (hc : c < 256) :
    (Line.byte c).words = some [commandWord 5 ((BitVec.ofNat 8 c).setWidth 29)] :=
  words_of_assemble (if_pos (show (Line.byte c).wellFormed = true from decide_eq_true hc))

theorem words_showDigit {d : Nat} (hd : d < 256) :
    (Line.showDigit d).words = some [commandWord 4 ((BitVec.ofNat 8 d).setWidth 29), commandWord 3 0] :=
  words_of_assemble (if_pos (show (Line.showDigit d).wellFormed = true from decide_eq_true hd))

theorem words_pixel {r c p : Nat} (hr : r < 5) (hc : c < 5) (hp : p < 2 ^ 24) :
    (Line.pixel r c p).words = some [commandWord 1 (BitVec.ofNat 5 (5 * r + c) ++ BitVec.ofNat 24 p)] :=
  words_of_assemble (if_pos (by simp only [Line.wellFormed, Bool.and_eq_true, decide_eq_true_eq]; omega))

/-- SETRGB names the channels of SET in another order, and is ill-formed with it (R118). -/
theorem words_setRgb (i r g b : Nat) : (Line.setRgb i r g b).words = (Line.setGrb i g r b).words := by
  have hwf : (Line.setRgb i r g b).wellFormed = (Line.setGrb i g r b).wellFormed := by
    simp only [Line.wellFormed, Bool.and_right_comm]
  by_cases h : (Line.setGrb i g r b).wellFormed = true
  · exact (words_of_assemble (if_pos (hwf.trans h))).trans (words_of_assemble (if_pos h)).symm
  · rw [words_of_not_wellFormed h, words_of_not_wellFormed (hwf ▸ h)]

/-- R117's number of a SET word. -/
theorem commandWord_set_eq_ofNat {i p : Nat} (hi : i < 32) (hp : p < 2 ^ 24) :
    commandWord 1 (BitVec.ofNat 5 i ++ BitVec.ofNat 24 p) = BitVec.ofNat 32 (0x20000000 + i * 2 ^ 24 + p) := by
  apply BitVec.eq_of_toNat_eq
  rw [commandWord_toNat, append_toNat, show (1 : BitVec 3).toNat = 1 from rfl]
  simp only [BitVec.toNat_ofNat]
  omega

/-- R117's number of a pixel given by its channels. -/
theorem pixelOf_eq_ofNat {r b : Nat} (g : Nat) (hr : r < 256) (hb : b < 256) :
    pixelOf g r b = BitVec.ofNat 24 (g * 2 ^ 16 + r * 2 ^ 8 + b) := by
  apply BitVec.eq_of_toNat_eq
  rw [pixelOf, append_toNat, append_toNat]
  simp only [BitVec.toNat_ofNat]
  omega

/-- R117's number of a GLYPH or BYTE word. -/
theorem commandWord_imm8_eq_ofNat (op : BitVec 3) {d : Nat} (hd : d < 256) :
    commandWord op ((BitVec.ofNat 8 d).setWidth 29) = BitVec.ofNat 32 (op.toNat * 2 ^ 29 + d) := by
  apply BitVec.eq_of_toNat_eq
  rw [commandWord_toNat, BitVec.toNat_setWidth]
  simp only [BitVec.toNat_ofNat]
  omega

/-- Settles O20: a line that fits gives the words of its operations, whose fields add up to R117's numbers; one that does not
fit gives none. -/
theorem pseudoInstructionsExpand : Obligations.PseudoInstructionsExpand := by
  refine ⟨fun i p hi hp => ?set, fun i g r b hi hg hr hb => ?setGrb, rfl, rfl, fun d hd => ?glyph, fun c hc => ?byte, rfl,
    fun d hd => ?showDigit, words_setRgb, fun r c p hr hc hp => ?pixel, fun i p h => ?badSet, fun i g r b h => ?badSetGrb,
    fun d h => ?badDigit, fun r c p h => ?badPixel⟩
  case set => rw [words_set hi hp, commandWord_set_eq_ofNat hi hp]
  case setGrb =>
    rw [words_setGrb hi hg hr hb, pixelOf_eq_ofNat g hr hb, commandWord_set_eq_ofNat hi (by omega)]
    simp only [Nat.add_assoc]
  case glyph => rw [words_glyph hd, commandWord_imm8_eq_ofNat 4 hd]; rfl
  case byte => rw [words_byte hc, commandWord_imm8_eq_ofNat 5 hc]; rfl
  case showDigit => rw [words_showDigit hd, commandWord_imm8_eq_ofNat 4 hd]; rfl
  case pixel => rw [words_pixel hr hc hp, words_set (by omega) hp]
  case badDigit =>
    have hno : ¬decide (d < 256) = true := by simpa using h
    exact ⟨words_of_not_wellFormed hno, words_of_not_wellFormed hno, words_of_not_wellFormed hno⟩
  all_goals
    apply words_of_not_wellFormed
    simp only [Line.wellFormed, Bool.and_eq_true, decide_eq_true_eq]
    omega

end Sys2Proof.Proofs
end

section
/-! PROOFS. The command port and the pulses of 30_encoding.md: the reserved opcodes (R113), BYTE beside SHOW and BLANK (R118), the
acceptance of a command (R101), its response (R107), and the requests to the adapter (R108, R109). -/

namespace Sys2Proof.Proofs

open Sys2Proof Sys2Proof.Machine

/-! ### The reserved opcodes: R113 -/

/-- Settles O8: each of them raises `IllegalCommand`, which writes the response registers alone. -/
theorem reservedAnswersIllegalCommand : Obligations.ReservedAnswersIllegalCommand :=
  fun _ => ⟨rfl, rfl, rfl⟩

/-! ### BYTE beside SHOW and BLANK: R118, R174 -/

/-- The command whose image a BYTE writes: GLYPH of the digit, or CLEAR. -/
theorem exec_imageOfByte (s : State) (c : Byte) :
    exec (if 0x30 ≤ c.toNat ∧ c.toNat ≤ 0x39 then .glyph (c - 0x30#8) else .clear) s =
      .next ((s.writeFb (byteImage c)).respond .ok) := by
  by_cases h : 0x30 ≤ c.toNat ∧ c.toNat ≤ 0x39
  · have hdigit : (c - 0x30#8).toNat = c.toNat - 0x30 := by bv_omega
    rw [if_pos h, byteImage_of_digit c h, exec_glyph_of_lt _ s (by omega)]
    simp only [hdigit]
  · rw [if_neg h, byteImage_of_not_digit c h]
    rfl

/-- Settles O14: both write the byte's image and start the transmission; only BYTE echoes. -/
theorem byteActsAsShowOrBlank : Obligations.ByteActsAsShowOrBlank := by
  intro s c
  have hpair : andThen (exec (if 0x30 ≤ c.toNat ∧ c.toNat ≤ 0x39 then .glyph (c - 0x30#8) else .clear) s) (exec .flush) =
      .next ((s.writeFb (byteImage c)).respond .ok).startTx := by
    rw [exec_imageOfByte]
    rfl
  exact ⟨_, _, rfl, hpair, rfl, rfl, rfl, rfl, rfl, rfl, rfl, rfl, rfl⟩

/-! ### One step by whether a command is accepted: R101, R140 -/

/-- A command is accepted only without reset, while valid and while the sequencer is idle. -/
theorem acceptedCommand_eq_some_iff (s : State) (x : Inputs) (i : Instr) :
    s.acceptedCommand x = some i ↔
      x.rst = false ∧ x.cmdValid = true ∧ s.txs = .idle ∧ decodeCommand x.cmdData = i := by
  cases hr : x.rst <;> simp [State.acceptedCommand, State.accepts, State.ready, hr, and_assoc]

theorem step_eq_of_noReset {s u : State} (hr : s.input.rst = false) (h : unitMPhase s.input s.clearPulses = .next u) :
    step s = .next (clockPhase s.input (eventsDone u)) :=
  (if_neg (by simp [hr])).trans (runCycle_eq s.input s u h)

theorem step_of_unaccepted {s : State} (hr : s.input.rst = false) (hnone : s.acceptedCommand s.input = none) :
    step s = .next (clockPhase s.input (eventsDone s.clearPulses.stepSequencer)) := by
  have haccepts : s.clearPulses.accepts s.input = false := by
    cases h : s.accepts s.input with
    | true => simp [State.acceptedCommand, h] at hnone
    | false => exact h
  exact step_eq_of_noReset hr (by simp [unitMPhase, haccepts])

theorem step_of_accepted {s u : State} {i : Instr} (hcmd : s.acceptedCommand s.input = some i)
    (h : exec i s.clearPulses = .next u) : step s = .next (clockPhase s.input (eventsDone u)) := by
  obtain ⟨hr, hvalid, hidle, hi⟩ := (acceptedCommand_eq_some_iff s s.input i).mp hcmd
  have haccepts : s.clearPulses.accepts s.input = true := by
    simp [State.accepts, State.ready, hr, hvalid, hidle]
  exact step_eq_of_noReset hr (by rw [unitMPhase, if_pos haccepts, hi, h])

/-! ### The command port has no influence while nothing is accepted: R101 -/

/-- Unit M's sequencer and the event phases neither read nor write the listed inputs. -/
theorem eventsDone_stepSequencer_withInputs (s : State) (xs : List Inputs) :
    eventsDone ({ s with inputs := xs } : State).stepSequencer = { eventsDone s.stepSequencer with inputs := xs } := by
  have hseq : ({ s with inputs := xs } : State).stepSequencer = { s.stepSequencer with inputs := xs } := by
    refine (stepSequencer_withUnitD { s with inputs := xs } s).trans ?_
    rw [stepSequencer_frame]
    rfl
  rw [hseq, eventsDone_eq, eventsDone_eq]

theorem eventsDone_stepSequencer_inputs (s : State) : (eventsDone s.stepSequencer).inputs = s.inputs := by
  rw [eventsDone_eq, stepSequencer_frame]

/-- The clock uses up the cycle's inputs, and of them takes the samples of the buttons. -/
theorem clockPhase_inputs {s : State} {x y : Inputs} {rest : List Inputs} (hs : s.inputs = x :: rest)
    (hA : y.btnsA = x.btnsA) (hB : y.btnsB = x.btnsB) :
    clockPhase y { s with inputs := y :: rest } = clockPhase x s := by
  simp [clockPhase, State.sampleButtons, State.tickTimer, State.nextInputs, hs, hA, hB]

/-- Inputs that differ on the command port alone give the same step where neither has its command accepted. -/
theorem step_eq_of_unaccepted {s : State} {x y : Inputs} {rest : List Inputs} (hs : s.inputs = x :: rest)
    (hrst : y.rst = x.rst) (hA : y.btnsA = x.btnsA) (hB : y.btnsB = x.btnsB)
    (hx : s.acceptedCommand x = none) (hy : s.acceptedCommand y = none) :
    step { s with inputs := y :: rest } = step s := by
  have hinput : s.input = x := by simp [State.input, State.inputAt, hs]
  cases hr : x.rst with
  | true =>
    have hreset : ({ s with inputs := y :: rest } : State).resetRegisters.nextInputs = s.resetRegisters.nextInputs := by
      simp [State.resetRegisters, State.nextInputs, hs]
    have hstep : step s = .next s.resetRegisters.nextInputs := if_pos (hinput ▸ hr)
    rw [hstep, ← hreset]
    exact if_pos (hrst.trans hr)
  | false =>
    have hlate := step_of_unaccepted (s := { s with inputs := y :: rest }) (hrst.trans hr) hy
    rw [hlate, step_of_unaccepted (hinput ▸ hr) (hinput ▸ hx), hinput]
    refine congrArg Host.Outcome.next ?_
    rw [← clockPhase_inputs ((eventsDone_stepSequencer_inputs s.clearPulses).trans hs) hA hB,
      ← eventsDone_stepSequencer_withInputs]
    rfl

theorem acceptedCommand_of_busy {s : State} (x : Inputs) (h : s.txs ≠ .idle) : s.acceptedCommand x = none := by
  simp [State.acceptedCommand, State.accepts, State.ready, h]

theorem acceptedCommand_of_not_valid (s : State) {x : Inputs} (h : x.cmdValid = false) : s.acceptedCommand x = none := by
  simp [State.acceptedCommand, State.accepts, h]

/-- Settles O25: in both cases no command is accepted, whatever else the command port carries. -/
theorem unacceptedCommandsHaveNoInfluence : Obligations.UnacceptedCommandsHaveNoInfluence := by
  intro s x rest v w hs
  constructor
  · intro hbusy
    exact step_eq_of_unaccepted hs rfl rfl rfl (acceptedCommand_of_busy _ hbusy) (acceptedCommand_of_busy _ hbusy)
  · intro hvalid
    exact step_eq_of_unaccepted hs rfl rfl rfl (acceptedCommand_of_not_valid s hvalid)
      (acceptedCommand_of_not_valid s hvalid)

/-! ### The response: R107, R145 -/

/-- The sequencer answers at the end of the gap, and only there. -/
theorem stepSequencer_response {s : State} (hv : s.rspv = false) (hc : s.rspc = 0) :
    (s.txs = .gap ∧ s.cfg.gapCycles - 1 ≤ s.gapcnt → s.stepSequencer.rspv = true ∧ s.stepSequencer.rspc = 0) ∧
    (s.txs ≠ .gap ∨ s.gapcnt < s.cfg.gapCycles - 1 → s.stepSequencer.rspv = false ∧ s.stepSequencer.rspc = 0) := by
  cases htxs : s.txs with
  | idle =>
    rw [stepSequencer_of_idle htxs]
    exact ⟨fun ⟨h, _⟩ => TxState.noConfusion h, fun _ => ⟨hv, hc⟩⟩
  | shift =>
    rw [stepSequencer_of_shift htxs]
    refine ⟨fun ⟨h, _⟩ => TxState.noConfusion h, fun _ => ?_⟩
    rcases s.stepShift_cases with ⟨_, h⟩ | ⟨_, _, h⟩ | ⟨_, _, _, h⟩ | ⟨_, _, _, h⟩ <;> rw [h] <;> exact ⟨hv, hc⟩
  | gap =>
    rw [stepSequencer_of_gap htxs]
    rcases s.stepGap_cases with ⟨hin, h⟩ | ⟨hend, h⟩ <;> rw [h]
    · exact ⟨fun ⟨_, hend⟩ => absurd hin (Nat.not_lt_of_le hend), fun _ => ⟨hv, hc⟩⟩
    · refine ⟨fun _ => ⟨rfl, rfl⟩, ?_⟩
      rintro (h | hin)
      · exact absurd rfl h
      · exact absurd hin (Nat.not_lt_of_le hend)

/-- Settles O26: an accepted command answers by itself or starts a transmission, and otherwise the sequencer alone can answer. -/
theorem responsePulsesHaveTheirCause : Obligations.ResponsePulsesHaveTheirCause := by
  intro s t hr h
  constructor
  · intro i hcmd
    obtain ⟨_, hi, u, hexec, _, _, _, _, _, _, hrspv, hrspc, _⟩ := step_of_acceptedCommand hcmd h
    rw [hrspv, hrspc]
    rcases exec_command_cases hi hexec with ⟨hno, fb, rfl⟩ | ⟨rfl, rfl⟩ | ⟨c, rfl, rfl⟩
    · exact ⟨fun _ => ⟨rfl, rfl⟩, fun hsends => absurd hsends (by simp [hno])⟩
    · exact ⟨fun hno => Bool.noConfusion hno, fun _ => ⟨rfl, rfl⟩⟩
    · exact ⟨fun hno => Bool.noConfusion hno, fun _ => ⟨rfl, rfl⟩⟩
  · intro hnone
    obtain rfl := Host.Outcome.next.inj ((step_of_unaccepted hr hnone).symm.trans h)
    obtain ⟨_, _, _, _, _, _, hrspv, hrspc, _⟩ := sameUnitM_clock_events s.input s.clearPulses.stepSequencer
    rw [hrspv, hrspc]
    exact stepSequencer_response (s := s.clearPulses) rfl rfl

/-! ### A presented operation runs next: log entries 2 and 3 -/

theorem eventDone_of_fall {k : ButtonId} {s : State} (h : (s.btn k).fall = true) : eventDone k s = s.debounce k := if_pos h

theorem eventDone_of_no_fall {k : ButtonId} {s : State} (h : (s.btn k).fall = false) : eventDone k s = s :=
  if_neg (by simp [h])

theorem withFetchWord_command (s : State) (w : CmdWord) : s.withFetchWord 32 w.toNat = s.presentCommand w := by
  simp [State.withFetchWord, tableSelector, State.present]

theorem withFetchWord_event (s : State) : s.withFetchWord 8 2 = s.presentEdge .a true false := rfl

/-- The inputs of the cycle are the driven ones. -/
theorem input_drive (s : State) (f : Inputs → Inputs) :
    ∃ x, ({ s with inputs := drive f s.inputs } : State).input = f x := by
  cases h : s.inputs with
  | nil => exact ⟨Inputs.quiet, rfl⟩
  | cons x rest => exact ⟨x, rfl⟩

theorem presentCommand_accepted (s : State) (w : CmdWord) :
    (s.presentCommand w).acceptedCommand (s.presentCommand w).input = some (decodeCommand w) := by
  obtain ⟨x, hx⟩ := input_drive s.restSequencer.restEdges fun x => { x with rst := false, cmdValid := true, cmdData := w }
  have hinput : (s.presentCommand w).input = { x with rst := false, cmdValid := true, cmdData := w } := hx
  rw [hinput, acceptedCommand_eq_some_iff]
  exact ⟨rfl, rfl, rfl, rfl⟩

theorem presentEdge_unaccepted (s : State) (k : ButtonId) (s3 s2 : Bool) :
    (s.presentEdge k s3 s2).input.rst = false ∧
      (s.presentEdge k s3 s2).acceptedCommand (s.presentEdge k s3 s2).input = none := by
  obtain ⟨x, hx⟩ := input_drive (s.restEdges.setBtn k { s.btn k with s3 := s3, s2 := s2 }) fun x =>
    { x with rst := false, cmdValid := false }
  have hinput : (s.presentEdge k s3 s2).input = { x with rst := false, cmdValid := false } := hx
  rw [hinput]
  exact ⟨rfl, acceptedCommand_of_not_valid _ rfl⟩

/-- A presented command is accepted, and no edge is detected beside it. -/
theorem step_presentCommand (s : State) (w : CmdWord) :
    step (s.presentCommand w) = andThen (exec (decodeCommand w) (s.presentCommand w).clearPulses) fun t =>
      .next (clockPhase (s.presentCommand w).input t) := by
  obtain ⟨u, hu⟩ := exec_next (decodeCommand w) (s.presentCommand w).clearPulses
  obtain ⟨hA, hB, _⟩ := exec_command_frame _ _ _ (decodeCommand_isCommand w) hu
  have hnoA : (u.btn .a).fall = false := congrArg ButtonRegs.fall hA
  have hnoB : (u.btn .b).fall = false := congrArg ButtonRegs.fall hB
  rw [step_of_accepted (presentCommand_accepted s w) hu, hu, andThen_next, eventsDone_eq_eventDone,
    eventDone_of_no_fall hnoA, eventDone_of_no_fall hnoB]

/-- A presented edge of button A is detected, and of button B none. -/
theorem step_presentEdge_a (s : State) :
    step (s.presentEdge .a true false) =
      andThen (exec .edgeA (s.presentEdge .a true false).clearPulses.stepSequencer) fun t =>
        .next (clockPhase (s.presentEdge .a true false).input t) := by
  obtain ⟨hr, hnone⟩ := presentEdge_unaccepted s .a true false
  have hfall : ((s.presentEdge .a true false).clearPulses.stepSequencer.btn .a).fall = true := by
    rw [stepSequencer_frame]
    rfl
  have hnoB : (((s.presentEdge .a true false).clearPulses.stepSequencer.debounce .a).btn .b).fall = false := by
    rw [debounce_a_eq, stepSequencer_frame]
    rfl
  rw [step_of_unaccepted hr hnone, eventsDone_eq_eventDone, eventDone_of_fall hfall, eventDone_of_no_fall hnoB]
  rfl

/-- Settles O22: `withFetchWord` presents the word's operation, and a presented operation runs in the next step. -/
theorem presentedWordRunsNext : Obligations.PresentedWordRunsNext := by
  intro s
  refine ⟨fun w => ?_, step_presentEdge_a s⟩
  rw [withFetchWord_command]
  exact step_presentCommand s w

/-! ### The requests to the adapter: R108, R109, R242 (c) -/

theorem ledOut_getLsbD (s : State) : s.ledOut.getLsbD 0 = s.btnA.level ∧ s.ledOut.getLsbD 1 = s.btnB.level := by
  unfold State.ledOut
  cases s.btnA.level <;> cases s.btnB.level <;> decide

/-- The calls that the echo pulse asks for. -/
def echoCalls (s : State) : List SurfaceCall := if s.echov then (Request.echo s.echoc).calls else []

/-- The calls that the refresh pulse asks for. -/
def refreshCalls (s : State) : List SurfaceCall :=
  if s.refv then (Request.refresh s.btnA.level s.btnB.level).calls else []

/-- A cycle asks for the calls of both pulses, each group whole, in one of the two orders. -/
theorem surfaceCalls_cases (s : State) :
    s.surfaceCalls = echoCalls s ++ refreshCalls s ∨ s.surfaceCalls = refreshCalls s ++ echoCalls s := by
  obtain ⟨hledA, hledB⟩ := ledOut_getLsbD s
  have hecho : (if s.echov then [Request.echo s.echoc] else []).flatMap Request.calls = echoCalls s := by
    cases h : s.echov <;> simp [echoCalls, h]
  have hrefresh :
      (if s.refv then [Request.refresh (s.ledOut.getLsbD 0) (s.ledOut.getLsbD 1)] else []).flatMap Request.calls =
        refreshCalls s := by
    rw [hledA, hledB]
    cases h : s.refv <;> simp [refreshCalls, h]
  rw [State.surfaceCalls, ← hecho, ← hrefresh, ← List.flatMap_append, ← List.flatMap_append]
  cases Config.sameCycleOrder s.envTick with
  | echoFirst => exact .inl rfl
  | refreshFirst => exact .inr rfl

/-- Settles O59: a pulse that is not given adds no calls, and the order of the groups is the adapter's. -/
theorem pulsesAreTheAdaptersRequests : Obligations.PulsesAreTheAdaptersRequests := by
  intro s
  refine ⟨?_, ?_, ?_, ?_⟩ <;> intro hecho hrefresh <;>
    simpa [echoCalls, refreshCalls, hecho, hrefresh] using surfaceCalls_cases s

end Sys2Proof.Proofs
end

section
/-! PROOFS. The Matrix Driver's commands and its parameters, 40_matrix_driver.md: SET, CLEAR and FLUSH at their acceptance (R131
to R133), the frame's bits and bytes (R134), the operations a step runs (R140) and the cycle parameters (R9, R153). -/

namespace Sys2Proof.Proofs

open Sys2Proof Sys2Proof.Machine

/-! ### SET, CLEAR and FLUSH at their acceptance: R131, R132, R133 -/

/-- Settles O3: within the 25 cells SET is a write of one cell, beyond them it raises `OutOfRange`. -/
theorem setWritesOneCellOrFails : Obligations.SetWritesOneCellOrFails := by
  intro s idx pix
  refine ⟨fun hin => ⟨_, exec_set_of_lt idx pix s hin, rfl, fun j => ?_⟩, fun hout => exec_set_of_ge idx pix s hout⟩
  have hcell := writeCell_getElem s.fb idx.toNat pix j j.isLt
  simp only [eq_comm (a := idx.toNat)] at hcell
  exact hcell

/-- Settles O4: CLEAR writes the blank framebuffer. -/
theorem clearZeroesEveryCell : Obligations.ClearZeroesEveryCell :=
  fun _ => ⟨_, rfl, rfl, fun j => blankFramebuffer_getElem j j.isLt⟩

/-- Settles O5: FLUSH is `start_tx` alone. -/
theorem flushStartsTransmission : Obligations.FlushStartsTransmission := fun _ => rfl

/-! ### The frame's bits and bytes: R134 -/

theorem frameBytes_getElem? (fb : Framebuffer) {q : Nat} (hq : q < 75) : (frameBytes fb)[q]? = some (frameByte fb q) := by
  simp [frameBytes, hq]

/-- Byte `q` of the frame is the channel `q mod 3` of cell `q div 3`, green first. -/
theorem frameByte_eq (fb : Framebuffer) (q : Nat) :
    frameByte fb q = (readCell fb (q / 3)).extractLsb' (16 - 8 * (q % 3)) 8 := by
  have hchannel : q % 3 = 0 ∨ q % 3 = 1 ∨ q % 3 = 2 := by omega
  rcases hchannel with h | h | h <;> simp [frameByte, h, green, red, blue]

/-- Settles O42: bit and byte both count from the top of their cell, so bit `8q + r` lies in byte `q`, `r` places down. -/
theorem frameBitsAreTheBitsOfFrameBytes : Obligations.FrameBitsAreTheBitsOfFrameBytes := by
  intro fb
  refine ⟨by simp [frameBits], by simp [frameBytes], fun j hj => ⟨frameBits_getElem? fb hj, ?_⟩,
    fun q hq => frameBytes_getElem? fb hq, fun q r hq hr => ?_, fun i => ?_⟩
  · rw [frameBit, readCell_of_lt]
  · have hcell : (8 * q + r) / 24 = q / 3 := by omega
    have hplace : 23 - (8 * q + r) % 24 = 16 - 8 * (q % 3) + (7 - r) := by omega
    have hin : 7 - r < 8 := by omega
    simp [frameBit, frameByte_eq, hcell, hplace, hin]
  · have hgreen : 3 * i.val / 3 = i.val ∧ 3 * i.val % 3 = 0 := by omega
    have hred : (3 * i.val + 1) / 3 = i.val ∧ (3 * i.val + 1) % 3 = 1 := by omega
    have hblue : (3 * i.val + 2) / 3 = i.val ∧ (3 * i.val + 2) % 3 = 2 := by omega
    simp [frameByte_eq, hgreen, hred, hblue, readCell_of_lt fb i.val i.isLt]

/-- Settles O45: only the written cell has bytes that are not zero, and its three are the pixel's channels in order. -/
theorem setOnBlankGivesThePixelsBytes : Obligations.SetOnBlankGivesThePixelsBytes := by
  intro s idx pix hblank hin
  refine ⟨_, exec_set_of_lt idx pix s hin, fun q hq => ?_⟩
  rw [frameBytes_getElem? _ hq, frameByte_eq, State.respond_fb, State.writeFb_fb,
    readCell_writeCell _ _ _ _ (by omega), hblank, readCell_blankFramebuffer]
  by_cases hcell : idx.toNat = q / 3
  · have hchannel : q = 3 * idx.toNat ∨ q = 3 * idx.toNat + 1 ∨ q = 3 * idx.toNat + 2 := by omega
    rw [if_pos hcell]
    rcases hchannel with rfl | rfl | rfl <;> simp
  · have hother : q ≠ 3 * idx.toNat ∧ q ≠ 3 * idx.toNat + 1 ∧ q ≠ 3 * idx.toNat + 2 := by omega
    obtain ⟨hgreen, hred, hblue⟩ := hother
    rw [if_neg hcell, if_neg hgreen, if_neg hred, if_neg hblue, zeroPixel]
    simp

/-! ### The operations a step runs: R101, R110, R140, R201 -/

/-- Settles O21: acceptance does not see the pulse defaults, and an event phase runs its operation on a detected edge only. -/
theorem stepRunsTheDecodedOperations : Obligations.StepRunsTheDecodedOperations := by
  refine ⟨fun s hr => ?_, fun k s => ⟨fun h3 h2 => ?_, fun h => ?_⟩⟩
  · have haccepts : s.clearPulses.accepts s.input = true ↔ s.input.cmdValid = true ∧ s.txs = .idle := by
      simp [State.accepts, State.ready, hr]
    have hcycle : step s = runCycle s.input s := if_neg (by simp [hr])
    rw [hcycle, runCycle, unitMPhase]
    simp only [haccepts]
  · have hfall : (s.btn k).fall = true := by simp [ButtonRegs.fall, h3, h2]
    rw [eventPhase_eq, if_pos hfall]
    cases k with
    | a => rfl
    | b => rfl
  · have hfall : (s.btn k).fall = false := by rcases h with h | h <;> simp [ButtonRegs.fall, h]
    simp [eventPhase_eq, hfall]

/-! ### The cycle parameters: R9, R153 -/

theorem dist_sub_sub_le (x y z : Nat) : Config.dist (x - y) (x - z) ≤ Config.dist y z := by
  unfold Config.dist
  omega

/-- What remains of an exact duration is off by no more than the part taken from it. -/
theorem lasts_sub {c : Params} {n a k b tol : Nat} (hn : c.Lasts n a 0) (hk : c.Lasts k b tol) :
    c.Lasts (n - k) (a - b) tol := by
  have hexact : n * 1000000000 = a * c.clkHz := by
    unfold Params.Lasts Config.dist at hn
    omega
  unfold Params.Lasts at hk ⊢
  rw [Nat.sub_mul, Nat.sub_mul, hexact]
  exact (dist_sub_sub_le _ _ _).trans hk

/-- Where R9's constraints hold, the low times and the bit period meet R153's, however near the period has to be. -/
theorem allowed_conforms {c : Params} (h : c.Allowed) : c.Conforms := by
  obtain ⟨hclk, hbit, ht0h, ht1h, _, _, hgap, _⟩ := h
  have hnear : c.Lasts c.bitCycles Config.tBitNom Config.nearNs :=
    hbit.trans (Nat.mul_le_mul_right _ (Nat.zero_le _))
  exact ⟨hclk, ht0h, ht1h, hgap, hnear, lasts_sub hbit ht0h, lasts_sub hbit ht1h⟩

/-- Settles O60: the defaults are nominal by calculation, and R153 follows from R9 for every choice. -/
theorem defaultParametersConform : Obligations.DefaultParametersConform := by
  refine ⟨⟨rfl, rfl, rfl, rfl, rfl, rfl, rfl, rfl⟩, ?_, ?_, ?_, ?_, ?_, ?_, ?_, ?_, ?_,
    fun c h => ⟨allowed_conforms h, allowed_positive c h⟩⟩ <;>
    simp [Params.Allowed, Params.Positive, Params.Lasts, Params.LastsAtLeast, Config.dist]

end Sys2Proof.Proofs
end

section
/-! PROOFS. The transmit sequencer of 40_matrix_driver.md: the bit on the line and its place in the frame (R142, R143), the
reset gap (R144), and a FLUSH or BYTE whole, cycle by cycle from its acceptance to its answer (R133, R145 to R148, R174). -/

namespace Sys2Proof.Proofs

open Sys2Proof Sys2Proof.Machine

/-! ### The cycle counts: R107 -/

theorem busyCycles_eq_add (c : Params) : c.busyCycles = c.frameCycles + c.gapCycles := rfl

theorem frameCycles_le_busyCycles (c : Params) : c.frameCycles ≤ c.busyCycles := Nat.le_add_right _ _

/-! ### The linear position: R35, R142 -/

/-- The number of the bit on the line, 0 to 599 in the frame's order: R35's position in whole bit cells. -/
def bitOnLine (s : State) : Nat := s.pix.toNat * 24 + (23 - s.bitidx.toNat)

theorem position_eq (s : State) : s.position = bitOnLine s * s.cfg.bitCycles + s.ph := rfl

/-- The sequencer sends, and is at linear position `p` with all three parts of it in their ranges. Of SequencerOk the gap
counter is left out: a command is also accepted in idle states that do not meet R51. -/
def Sends (p : Nat) (s : State) : Prop :=
  s.txs = .shift ∧ s.pix.toNat ≤ 24 ∧ s.bitidx.toNat ≤ 23 ∧ s.ph < s.cfg.bitCycles ∧ s.position = p

/-- The sequencer is in the gap, with the position back at (0, 23, 0) and the counter at `g`. -/
def CountsGap (g : Nat) (s : State) : Prop :=
  s.txs = .gap ∧ s.pix = 0 ∧ s.bitidx = 23 ∧ s.ph = 0 ∧ s.gapcnt = g

/-- A transmission is over: the sequencer is at rest and the response is OK (R145). -/
def Answers (s : State) : Prop :=
  s.txs = .idle ∧ s.pix = 0 ∧ s.bitidx = 23 ∧ s.ph = 0 ∧ s.gapcnt = 0 ∧ s.rspv = true ∧ s.rspc = 0

theorem sends_position {s : State} (hpos : s.cfg.Positive) (hs : SequencerOk s) (htxs : s.txs = .shift) :
    Sends s.position s := by
  obtain ⟨hpix, hbit, hph, _⟩ := (sequencerOk_iff_of_shift htxs).mp hs
  obtain ⟨hcell, _⟩ := hpos
  exact ⟨htxs, hpix, hbit, by omega, rfl⟩

/-- The linear position and its parts determine each other. -/
theorem bitOnLine_eq_div {p : Nat} {s : State} (hs : Sends p s) :
    bitOnLine s = p / s.cfg.bitCycles ∧ s.ph = p % s.cfg.bitCycles := by
  obtain ⟨_, _, _, hph, hp⟩ := hs
  rw [← hp, position_eq, Nat.mul_comm, Nat.mul_add_div (by omega), Nat.div_eq_of_lt hph, Nat.mul_add_mod,
    Nat.mod_eq_of_lt hph]
  exact ⟨rfl, rfl⟩

theorem bitOnLine_lt {p : Nat} {s : State} (hs : Sends p s) : bitOnLine s < 600 := by
  obtain ⟨_, hpix, _, _, _⟩ := hs
  unfold bitOnLine
  omega

theorem sends_lt {p : Nat} {s : State} (hs : Sends p s) : p < s.cfg.frameCycles := by
  have hbit : p / s.cfg.bitCycles < 600 := (bitOnLine_eq_div hs).1 ▸ bitOnLine_lt hs
  obtain ⟨_, _, _, hph, _⟩ := hs
  rw [frameCycles_eq]
  exact (Nat.div_lt_iff_lt_mul (by omega)).mp hbit

/-! ### Stepping in SHIFT and in GAP: R142, R144 -/

/-- The three ways SHIFT goes on: within the bit cell, to the next bit's cell, or from the last bit's cell to the gap. -/
theorem stepShift_of_sends {p : Nat} {s : State} (hs : Sends p s) :
    (s.ph + 1 < s.cfg.bitCycles ∧ s.stepShift = { s with ph := s.ph + 1 }) ∨
    (s.ph + 1 = s.cfg.bitCycles ∧ ∃ pix bitidx : BitVec 5,
      s.stepShift = { s with ph := 0, bitidx := bitidx, pix := pix } ∧
      pix.toNat ≤ 24 ∧ bitidx.toNat ≤ 23 ∧ pix.toNat * 24 + (23 - bitidx.toNat) = bitOnLine s + 1) ∨
    (s.ph + 1 = s.cfg.bitCycles ∧ bitOnLine s = 599 ∧
      s.stepShift = { s with ph := 0, bitidx := 23, pix := 0, txs := .gap, gapcnt := 0 }) := by
  obtain ⟨_, hpix, hbit, hph, _⟩ := hs
  unfold bitOnLine
  rcases s.stepShift_cases with ⟨hin, heq⟩ | ⟨hend, hbits, heq⟩ | ⟨hend, hbits, hcells, heq⟩ |
    ⟨hend, hbits, hcells, heq⟩
  · exact .inl ⟨by omega, heq⟩
  · exact .inr (.inl ⟨by omega, s.pix, s.bitidx - 1, heq, hpix, by bv_omega, by bv_omega⟩)
  · exact .inr (.inl ⟨by omega, s.pix + 1, 23, heq, by bv_omega, by simp, by bv_omega⟩)
  · exact .inr (.inr ⟨by omega, by omega, heq⟩)

/-- The next position is one further, and after the frame's last position comes the gap. -/
theorem sends_or_countsGap_stepShift {p : Nat} {s : State} (hs : Sends p s) :
    (p + 1 < s.cfg.frameCycles ∧ Sends (p + 1) s.stepShift) ∨
    (p + 1 = s.cfg.frameCycles ∧ CountsGap 0 s.stepShift) := by
  have hcases := stepShift_of_sends hs
  obtain ⟨htxs, hpix, hbit, hph, hpos⟩ := hs
  rw [position_eq] at hpos
  rcases hcases with ⟨hin, heq⟩ | ⟨hend, pix, bitidx, heq, hpix', hbit', hnum⟩ | ⟨hend, hlast, heq⟩ <;> rw [heq]
  · have hsends : Sends (p + 1) { s with ph := s.ph + 1 } :=
      ⟨htxs, hpix, hbit, hin, by rw [← hpos]; rfl⟩
    have hlt := sends_lt hsends
    exact .inl ⟨hlt, hsends⟩
  · have hpos' : (bitOnLine s + 1) * s.cfg.bitCycles + 0 = p + 1 := by rw [Nat.succ_mul]; omega
    have hsends : Sends (p + 1) { s with ph := 0, bitidx := bitidx, pix := pix } :=
      ⟨htxs, hpix', hbit', Nat.zero_lt_of_lt hph, by rw [← hpos', ← hnum]; rfl⟩
    have hlt := sends_lt hsends
    exact .inl ⟨hlt, hsends⟩
  · refine .inr ⟨?_, rfl, rfl, rfl, rfl, rfl⟩
    rw [frameCycles_eq]
    rw [hlast] at hpos
    omega

/-! ### One cycle of a busy sequencer -/

/-- While the sequencer is busy no command is accepted, so a cycle without reset advances Unit M by its sequencer alone. -/
theorem step_of_busy {s t : State} (hr : s.input.rst = false) (hbusy : s.txs ≠ .idle) (h : step s = .next t) :
    SameUnitM t s.clearPulses.stepSequencer ∧ t.cfg = s.cfg := by
  obtain rfl := Host.Outcome.next.inj ((step_of_unaccepted hr (acceptedCommand_of_busy _ hbusy)).symm.trans h)
  exact ⟨sameUnitM_clock_events _ _, (step_unitD hr h).1⟩

theorem sends_congr {s t : State} (p : Nat) (h : SameUnitM s t) (hcfg : s.cfg = t.cfg) : Sends p s ↔ Sends p t := by
  rw [eq_withUnitD_of_sameUnitM hcfg h]
  rfl

theorem countsGap_congr {s t : State} (g : Nat) (h : SameUnitM s t) : CountsGap g s ↔ CountsGap g t := by
  obtain ⟨_, htxs, hpix, hbitidx, hph, hgap, _⟩ := h
  simp only [CountsGap, htxs, hpix, hbitidx, hph, hgap]

/-- A cycle in SHIFT: the frame's next position, or after its last one the gap, and no response. -/
theorem step_of_sends {p : Nat} {s t : State} (hr : s.input.rst = false) (hs : Sends p s) (h : step s = .next t) :
    t.cfg = s.cfg ∧ t.fb = s.fb ∧ t.rspv = false ∧
    ((p + 1 < s.cfg.frameCycles ∧ Sends (p + 1) t) ∨ (p + 1 = s.cfg.frameCycles ∧ CountsGap 0 t)) := by
  have htxs : s.txs = .shift := hs.1
  have hclear : Sends p s.clearPulses := hs
  obtain ⟨hsame, hcfg⟩ := step_of_busy hr (by simp [htxs]) h
  rw [stepSequencer_of_shift (s := s.clearPulses) htxs] at hsame
  have hframe : s.clearPulses.stepShift.cfg = s.cfg ∧ s.clearPulses.stepShift.fb = s.fb ∧
      s.clearPulses.stepShift.rspv = false := by
    rcases stepShift_of_sends hclear with ⟨_, heq⟩ | ⟨_, _, _, heq, _⟩ | ⟨_, _, heq⟩ <;> rw [heq] <;>
      exact ⟨rfl, rfl, rfl⟩
  obtain ⟨hcfg', hfb', hrspv'⟩ := hframe
  rw [sends_congr (p + 1) hsame (hcfg.trans hcfg'.symm), countsGap_congr 0 hsame]
  obtain ⟨hfb, _, _, _, _, _, hrspv, _⟩ := hsame
  exact ⟨hcfg, hfb.trans hfb', hrspv.trans hrspv', sends_or_countsGap_stepShift hclear⟩

/-- Settles O33: a state within its ranges sends at its own position, and one cycle takes it to the next. -/
theorem shiftAdvancesThePosition : Obligations.ShiftAdvancesThePosition := by
  intro s t hpos hs htxs hr h
  have hsends : Sends s.position s := sends_position hpos hs htxs
  obtain ⟨hcfg, hfb, _, hnext⟩ := step_of_sends hr hsends h
  have hlt := sends_lt hsends
  rw [frameCycles_eq] at hnext hlt
  refine ⟨hfb, hlt, fun hin => ?_, fun hend => ?_⟩
  · rcases hnext with ⟨_, htxs', _, _, _, hp⟩ | ⟨hend, _⟩
    · exact ⟨htxs', hp, step_keeps_sequencerOk hr h hs⟩
    · omega
  · rcases hnext with ⟨hin, _⟩ | ⟨_, hgap⟩
    · omega
    · exact hgap

/-- Settles O34: of the sequencer's registers a cycle in GAP writes the counter, and at its last value the state and the
response. -/
theorem gapCountsAndAnswers : Obligations.GapCountsAndAnswers := by
  intro s t htxs hr h
  obtain ⟨hsame, _⟩ := step_of_busy hr (by simp [htxs]) h
  rw [stepSequencer_of_gap (s := s.clearPulses) htxs] at hsame
  rcases s.clearPulses.stepGap_cases with ⟨hin, heq⟩ | ⟨hend, heq⟩ <;> rw [heq] at hsame <;>
    obtain ⟨hfb, htxs', hpix, hbitidx, hph, hgap, hrspv, hrspc, _⟩ := hsame <;>
    refine ⟨hfb, hpix, hbitidx, hph, ?_, ?_⟩
  · exact fun _ => ⟨htxs'.trans htxs, hgap, hrspv⟩
  · intro hout
    have hin' : s.gapcnt < s.cfg.gapCycles - 1 := hin
    omega
  · intro hin
    have hend' : s.cfg.gapCycles - 1 ≤ s.gapcnt := hend
    omega
  · intro _
    have hready : t.outputs.cmdReady = true := by simp [State.outputs, State.ready, htxs']
    exact ⟨htxs', hgap, hready, hrspv, hrspc⟩

/-! ### The data line: R143 -/

/-- The bit on the line is the frame's bit of that number. -/
theorem lineBit_eq_frameBit {s : State} (hbit : s.bitidx.toNat ≤ 23) : s.lineBit = frameBit s.fb (bitOnLine s) := by
  have hcell : (s.pix.toNat * 24 + (23 - s.bitidx.toNat)) / 24 = s.pix.toNat := by omega
  have hplace : 23 - (s.pix.toNat * 24 + (23 - s.bitidx.toNat)) % 24 = s.bitidx.toNat := by omega
  rw [State.lineBit, frameBit, bitOnLine, hcell, hplace]

theorem dout_of_shift {s : State} (h : s.txs = .shift) : s.outputs.dout = decide (s.ph < highCycles s.cfg s.lineBit) := by
  simp [State.outputs, State.dout, h]

theorem dout_of_not_shift {s : State} (h : s.txs ≠ .shift) : s.outputs.dout = false := by
  simp [State.outputs, State.dout, h]

/-- Settles O32: the cell and bit on the line exist, and their bit cell is high for its first cycles. -/
theorem dataLineIsHighInTheHighPartOnly : Obligations.DataLineIsHighInTheHighPartOnly := by
  intro s _
  refine ⟨dout_of_not_shift, fun hpix htxs => ?_⟩
  rw [dout_of_shift htxs, decide_eq_true_iff, State.lineBit, readCell_of_lt s.fb _ hpix, highCycles]

/-- R149's closed form of the line, from the frame alone: the level `m` cycles after its first. -/
def frameLine (c : Params) (fb : Framebuffer) (m : Nat) : Bool :=
  decide (m < c.frameCycles) && decide (m % c.bitCycles < highCycles c (frameBit fb (m / c.bitCycles)))

theorem frameLine_eq_true_iff (c : Params) (fb : Framebuffer) (m : Nat) : frameLine c fb m = true ↔
    m < c.frameCycles ∧ m % c.bitCycles < highCycles c (frameBit fb (m / c.bitCycles)) := by
  simp [frameLine]

theorem frameLine_of_ge (c : Params) (fb : Framebuffer) {m : Nat} (h : c.frameCycles ≤ m) : frameLine c fb m = false := by
  simp [frameLine, Nat.not_lt_of_le h]

theorem frameLine_of_lt (c : Params) (fb : Framebuffer) {m : Nat} (h : m < c.frameCycles) :
    frameLine c fb m = decide (m % c.bitCycles < highCycles c (frameBit fb (m / c.bitCycles))) := by
  simp [frameLine, h]

/-- The line is low from the end of the last bit's high part on. -/
theorem frameLine_after_last_high (c : Params) (fb : Framebuffer) {j : Nat} (hj : highCycles c (frameBit fb 599) ≤ j) :
    frameLine c fb (599 * c.bitCycles + j) = false := by
  rcases Nat.lt_or_ge j c.bitCycles with hin | hout
  · have hquot : (599 * c.bitCycles + j) / c.bitCycles = 599 := by
      rw [Nat.mul_comm, Nat.mul_add_div (by omega), Nat.div_eq_of_lt hin]
    have hrem : (599 * c.bitCycles + j) % c.bitCycles = j := by
      rw [Nat.mul_comm, Nat.mul_add_mod, Nat.mod_eq_of_lt hin]
    simp [frameLine, hquot, hrem, hj]
  · exact frameLine_of_ge c fb (by rw [frameCycles_eq]; omega)

theorem dout_of_sends {p : Nat} {s : State} (hs : Sends p s) : s.outputs.dout = frameLine s.cfg s.fb p := by
  obtain ⟨hnum, hph⟩ := bitOnLine_eq_div hs
  rw [frameLine_of_lt s.cfg s.fb (sends_lt hs), ← hnum, ← hph]
  obtain ⟨htxs, _, hbit, _⟩ := hs
  rw [dout_of_shift htxs, lineBit_eq_frameBit hbit]

/-! ### A transmission cycle by cycle: R148 -/

/-- The block `m` cycles after the first cycle of a transmission of `fb`: the frame, then the gap, then the answer. -/
def TransmissionAt (c : Params) (fb : Framebuffer) (m : Nat) (t : State) : Prop :=
  t.cfg = c ∧ t.fb = fb ∧
  ((m < c.frameCycles ∧ Sends m t ∧ t.rspv = false) ∨
   (c.frameCycles ≤ m ∧ m < c.busyCycles ∧ CountsGap (m - c.frameCycles) t ∧ t.rspv = false) ∨
   (m = c.busyCycles ∧ Answers t))

/-- Each cycle of a transmission leads to its next. -/
theorem step_of_transmissionAt {c : Params} {fb : Framebuffer} {m : Nat} {s t : State} (hpos : c.Positive)
    (hs : TransmissionAt c fb m s) (hm : m < c.busyCycles) (hr : s.input.rst = false) (h : step s = .next t) :
    TransmissionAt c fb (m + 1) t := by
  obtain ⟨rfl, rfl, ⟨_, hsends, _⟩ | ⟨hin, _, hgap, _⟩ | ⟨hend, _⟩⟩ := hs
  · obtain ⟨hcfg, hfb, hrspv, ⟨hlt, hnext⟩ | ⟨heq, hnext⟩⟩ := step_of_sends hr hsends h
    · exact ⟨hcfg, hfb, .inl ⟨hlt, hnext, hrspv⟩⟩
    · obtain ⟨_, hgapPos, _⟩ := hpos
      have hbusy : m + 1 < s.cfg.busyCycles := by rw [busyCycles_eq_add]; omega
      exact ⟨hcfg, hfb, .inr (.inl ⟨Nat.le_of_eq heq.symm, hbusy, by rwa [heq, Nat.sub_self], hrspv⟩)⟩
  · obtain ⟨htxs, hpix, hbitidx, hph, hg⟩ := hgap
    have hcfg : t.cfg = s.cfg := (step_unitD hr h).1
    obtain ⟨hfb, hpix', hbitidx', hph', hcount, hend⟩ := gapCountsAndAnswers s t htxs hr h
    have hpix0 := hpix'.trans hpix
    have hbit23 := hbitidx'.trans hbitidx
    have hph0 := hph'.trans hph
    rcases Nat.lt_or_ge (s.gapcnt + 1) s.cfg.gapCycles with hlt | hge
    · obtain ⟨htxs', hg', hrspv⟩ := hcount hlt
      have hbusy : m + 1 < s.cfg.busyCycles := by rw [busyCycles_eq_add] at hm ⊢; omega
      exact ⟨hcfg, hfb, .inr (.inl ⟨by omega, hbusy, ⟨htxs', hpix0, hbit23, hph0, by omega⟩, hrspv⟩)⟩
    · obtain ⟨htxs', hg', _, hrspv, hrspc⟩ := hend hge
      have hover : m + 1 = s.cfg.busyCycles := by rw [busyCycles_eq_add] at hm ⊢; omega
      exact ⟨hcfg, hfb, .inr (.inr ⟨hover, htxs', hpix0, hbit23, hph0, hg', hrspv, hrspc⟩)⟩
  · omega

/-- A transmission runs on through its cycles, by induction on their number. -/
theorem transmission_run {c : Params} {fb : Framebuffer} (hpos : c.Positive) (n : Nat) :
    ∀ {m : Nat} {s : State}, TransmissionAt c fb m s → NoReset n s → m + n ≤ c.busyCycles →
      ∃ t : State, stateAfter n s = some t ∧ TransmissionAt c fb (m + n) t := by
  induction n with
  | zero => exact fun hs _ _ => ⟨_, rfl, hs⟩
  | succ n ih =>
    intro m s hs hno hm
    obtain ⟨u, hu⟩ := step_next s
    have hnext := step_of_transmissionAt hpos hs (by omega) (noReset_input n s hno) hu
    obtain ⟨t, hrun, ht⟩ := ih hnext (noReset_of_step hno hu) (by omega)
    exact ⟨t, (stateAfter_succ_of_step n s u hu).trans hrun, by rwa [Nat.add_right_comm] at ht⟩

/-- What an accepted FLUSH or BYTE leaves for the next cycle: the first position of the frame, without a response, and the
framebuffer and the echo of R133 and R174. -/
theorem step_of_transmits {s t : State} {i : Instr} (hpos : s.cfg.Positive)
    (hcmd : s.acceptedCommand s.input = some i) (hsends : i.transmits = true) (h : step s = .next t) :
    TransmissionAt s.cfg t.fb 0 t ∧
    ((i = .flush ∧ t.fb = s.fb ∧ t.echov = false) ∨
      (∃ c, i = .byte c ∧ t.fb = byteImage c ∧ t.echov = true ∧ t.echoc = c)) := by
  obtain ⟨hr, _⟩ := (acceptedCommand_eq_some_iff s s.input i).mp hcmd
  have hcfg : t.cfg = s.cfg := (step_unitD hr h).1
  obtain ⟨hcell, _⟩ := hpos
  have hframe : 0 < s.cfg.frameCycles := by rw [frameCycles_eq]; omega
  obtain ⟨_, hi, u, hexec, hfb, htxs, hpix, hbitidx, hph, _, hrspv, _, hechov, hechoc⟩ := step_of_acceptedCommand hcmd h
  have hfirst : u.txs = .shift → u.pix = 0 → u.bitidx = 23 → u.ph = 0 → u.rspv = false →
      TransmissionAt s.cfg t.fb 0 t := by
    intro hutxs hupix hubitidx huph hursp
    have hpix0 := hpix.trans hupix
    have hbit23 := hbitidx.trans hubitidx
    have hph0 := hph.trans huph
    have hstart : Sends 0 t :=
      ⟨htxs.trans hutxs, by simp [hpix0], by simp [hbit23], by rwa [hph0, hcfg], position_of_start hpix0 hbit23 hph0⟩
    exact ⟨hcfg, rfl, .inl ⟨hframe, hstart, hrspv.trans hursp⟩⟩
  rcases exec_command_cases hi hexec with ⟨hno, _⟩ | ⟨rfl, rfl⟩ | ⟨c, rfl, rfl⟩
  · simp [hno] at hsends
  · exact ⟨hfirst rfl rfl rfl rfl rfl, .inl ⟨rfl, hfb, hechov⟩⟩
  · exact ⟨hfirst rfl rfl rfl rfl rfl, .inr ⟨c, rfl, hfb, hechov, hechoc⟩⟩

/-- An accepted FLUSH or BYTE is followed by a whole transmission of the framebuffer it leaves. -/
theorem transmission_of_accepted {s t : State} {i : Instr} (hpos : s.cfg.Positive)
    (hcmd : s.acceptedCommand s.input = some i) (hsends : i.transmits = true) (hno : NoReset (s.cfg.busyCycles + 1) s)
    (h : step s = .next t) (m : Nat) (hm : m ≤ s.cfg.busyCycles) :
    ∃ u : State, stateAfter (m + 1) s = some u ∧ stateAfter m t = some u ∧ TransmissionAt s.cfg t.fb m u := by
  have hfirst := (step_of_transmits hpos hcmd hsends h).1
  obtain ⟨u, hrun, hu⟩ := transmission_run hpos m hfirst (noReset_of_le m _ t hm (noReset_of_step hno h)) (by omega)
  exact ⟨u, (stateAfter_succ_of_step m s t h).trans hrun, hrun, by rwa [Nat.zero_add] at hu⟩

/-! ### What the ports carry during a transmission -/

theorem dout_of_transmissionAt {c : Params} {fb : Framebuffer} {m : Nat} {s : State} (hs : TransmissionAt c fb m s) :
    s.outputs.dout = frameLine c fb m := by
  obtain ⟨rfl, rfl, ⟨_, hsends, _⟩ | ⟨hin, _, ⟨htxs, _⟩, _⟩ | ⟨rfl, htxs, _⟩⟩ := hs
  · exact dout_of_sends hsends
  · rw [frameLine_of_ge _ _ hin, dout_of_not_shift (by simp [htxs])]
  · rw [frameLine_of_ge _ _ (frameCycles_le_busyCycles _), dout_of_idle htxs]

/-- Until it is over the block is not ready and gives no response. -/
theorem transmissionAt_silent {c : Params} {fb : Framebuffer} {m : Nat} {s : State} (hs : TransmissionAt c fb m s)
    (hm : m < c.busyCycles) : s.outputs.cmdReady = false ∧ s.outputs.rspValid = false := by
  obtain ⟨_, _, ⟨_, ⟨htxs, _⟩, hrspv⟩ | ⟨_, _, ⟨htxs, _⟩, hrspv⟩ | ⟨hend, _⟩⟩ := hs
  · simp [State.outputs, State.ready, htxs, hrspv]
  · simp [State.outputs, State.ready, htxs, hrspv]
  · omega

theorem transmissionAt_end {c : Params} {fb : Framebuffer} {s : State} (hs : TransmissionAt c fb c.busyCycles s) :
    Answers s := by
  obtain ⟨_, _, ⟨hlt, _⟩ | ⟨_, hlt, _⟩ | ⟨_, hanswers⟩⟩ := hs
  · exact absurd hlt (Nat.not_lt_of_le (frameCycles_le_busyCycles c))
  · exact absurd hlt (Nat.lt_irrefl _)
  · exact hanswers

theorem outputs_of_answers {s : State} (hs : Answers s) :
    s.outputs.cmdReady = true ∧ s.outputs.rspValid = true ∧ s.outputs.rspCode = 0 := by
  obtain ⟨htxs, _, _, _, _, hrspv, hrspc⟩ := hs
  simp [State.outputs, State.ready, htxs, hrspv, hrspc]

/-! ### FLUSH and BYTE whole: R133, R145 to R148, R174 -/

/-- Settles O35: cycle `m` after acceptance is cycle `m - 1` of the transmission; the default counts are by calculation. -/
theorem transmissionTakes17001Cycles : Obligations.TransmissionTakes17001Cycles := by
  refine ⟨fun s i hpos hcmd hsends hno => ?_, ?_⟩
  · obtain ⟨t1, h⟩ := step_next s
    obtain ⟨_, _, hidle, _⟩ := (acceptedCommand_eq_some_iff s s.input i).mp hcmd
    refine ⟨hidle, by simp [State.outputs, State.ready, hidle], dout_of_idle hidle, fun m hm1 hm => ?_⟩
    obtain ⟨m, rfl⟩ := Nat.exists_eq_succ_of_ne_zero (Nat.ne_of_gt hm1)
    obtain ⟨t, hrun, -, ht⟩ := transmission_of_accepted hpos hcmd hsends hno h m (by omega)
    refine ⟨t, hrun, fun hframe => ?_, fun hframe hbusy => ?_, fun hbusy => transmissionAt_silent ht (by omega),
      fun hend => ?_⟩
    · obtain ⟨_, _, ⟨_, ⟨htxs, _, _, _, hp⟩, _⟩ | ⟨hin, _⟩ | ⟨heq, _⟩⟩ := ht
      · exact ⟨htxs, hp⟩
      · omega
      · rw [busyCycles_eq_add] at heq
        omega
    · have hdout := (dout_of_transmissionAt ht).trans (frameLine_of_ge s.cfg t1.fb (by omega))
      obtain ⟨_, _, ⟨hin, _⟩ | ⟨_, _, ⟨htxs, _, _, _, hg⟩, _⟩ | ⟨heq, _⟩⟩ := ht
      · omega
      · exact ⟨htxs, by omega, hdout⟩
      · omega
    · obtain rfl : m = s.cfg.busyCycles := by omega
      obtain ⟨hready, hrspValid, hrspCode⟩ := outputs_of_answers (transmissionAt_end ht)
      obtain ⟨htxs, _⟩ := transmissionAt_end ht
      exact ⟨htxs, hready, dout_of_idle htxs, hrspValid, hrspCode⟩
  · exact ⟨by simp [Params.Positive], rfl, rfl, by simp [Params.Lasts, Config.dist], by simp [Params.Lasts, Config.dist],
      by simp [Params.Lasts, Config.dist]⟩

/-- Every cell of the framebuffer a BYTE leaves (R174). -/
theorem byteImage_getElem (c : Byte) :
    (∀ h : 0x30 ≤ c.toNat ∧ c.toNat ≤ 0x39, ∀ j : Fin 25, (byteImage c)[j] =
      if (Config.glyphMask ⟨c.toNat - 0x30, by omega⟩).getLsbD j.val then Config.glyphColor ⟨c.toNat - 0x30, by omega⟩
      else 0#24) ∧
    (c.toNat < 0x30 ∨ 0x39 < c.toNat → ∀ j : Fin 25, (byteImage c)[j] = 0#24) := by
  refine ⟨fun h j => ?_, fun h j => ?_⟩
  · rw [byteImage_of_digit c h]
    exact Glyph.image_getElem _ j j.isLt
  · rw [byteImage_of_not_digit c (by omega)]
    exact blankFramebuffer_getElem j j.isLt

/-- Settles O38: the framebuffer is the one of the acceptance, and the cycles are those of its transmission. -/
theorem flushAndByteSendTheirFrame : Obligations.FlushAndByteSendTheirFrame := by
  intro s i hpos hcmd hsends hno
  obtain ⟨t1, h⟩ := step_next s
  have hcycles := transmission_of_accepted hpos hcmd hsends hno h
  obtain ⟨t, hrun, -, ht⟩ := hcycles s.cfg.busyCycles (Nat.le_refl _)
  obtain ⟨htxs, hpix, hbitidx, hph, hgap, _⟩ := transmissionAt_end ht
  have hports := outputs_of_answers (transmissionAt_end ht)
  obtain ⟨_, hfb, _⟩ := ht
  refine ⟨t1, t, stateAfter_succ_of_step 0 s t1 h, hrun, ?flush, ?byte, ?cycles, hfb, htxs, hpix, hbitidx, hph, hgap,
    hports⟩
  case flush =>
    rintro rfl
    obtain ⟨_, ⟨_, hfb, hechov⟩ | ⟨c, hbyte, _⟩⟩ := step_of_transmits hpos hcmd hsends h
    · exact ⟨hfb, hechov⟩
    · cases hbyte
  case byte =>
    rintro c rfl
    obtain ⟨_, ⟨hflush, _⟩ | ⟨c', hbyte, hfb, hechov, hechoc⟩⟩ := step_of_transmits hpos hcmd hsends h
    · cases hflush
    · obtain rfl := Instr.byte.inj hbyte
      rw [hfb]
      exact ⟨hechov, hechoc, byteImage_getElem c⟩
  case cycles =>
    intro m hm
    obtain ⟨u, hu, -, hat⟩ := hcycles m (Nat.le_of_lt hm)
    obtain ⟨hready, hrsp⟩ := transmissionAt_silent hat hm
    refine ⟨u, by rwa [Nat.add_comm], hready, hrsp, ?_⟩
    rw [dout_of_transmissionAt hat]
    exact frameLine_eq_true_iff s.cfg t1.fb m

/-! ### The line between two frames: R147 -/

/-- Settles O39: after the high part of the last bit the closed form of the line is low, through the gap to the answer. -/
theorem lineIsLowBetweenFrames : Obligations.LineIsLowBetweenFrames := by
  intro s t1 i hallowed hcmd hsends hno h1
  obtain ⟨t, h⟩ := step_next s
  obtain rfl : t = t1 := Option.some.inj ((stateAfter_succ_of_step 0 s t h).symm.trans h1)
  have hcycles := transmission_of_accepted (allowed_positive _ hallowed) hcmd hsends hno h
  obtain ⟨_, _, _, _, ht0, ht1, _⟩ := hallowed
  have hbusy : s.cfg.busyCycles = 599 * s.cfg.bitCycles + s.cfg.bitCycles + s.cfg.gapCycles := by
    rw [busyCycles_eq]
    omega
  have hlow : ∀ high k, high < s.cfg.bitCycles → highCycles s.cfg (frameBit t.fb 599) ≤ high →
      k < (s.cfg.bitCycles - high) + s.cfg.gapCycles + 1 →
      ∃ u : State, stateAfter (1 + 599 * s.cfg.bitCycles + high + k) s = some u ∧ u.outputs.dout = false := by
    intro high k hhigh hle hk
    obtain ⟨u, hu, -, hat⟩ := hcycles (599 * s.cfg.bitCycles + high + k) (by omega)
    have hcycle : 1 + 599 * s.cfg.bitCycles + high + k = 599 * s.cfg.bitCycles + high + k + 1 := by omega
    refine ⟨u, hcycle ▸ hu, ?_⟩
    rw [dout_of_transmissionAt hat, Nat.add_assoc]
    exact frameLine_after_last_high s.cfg t.fb (by omega)
  refine ⟨fun m hm1 hm => ?_, fun k hk => ?_, fun hzero k hk => ?_⟩
  · obtain ⟨m, rfl⟩ := Nat.exists_eq_succ_of_ne_zero (Nat.ne_of_gt hm1)
    obtain ⟨u, hu, -, hat⟩ := hcycles m (by omega)
    exact ⟨u, hu, (transmissionAt_silent hat (by omega)).1⟩
  · refine hlow _ k ht1 ?_ hk
    unfold highCycles
    split <;> omega
  · exact hlow _ k (by omega) (by simp [highCycles, hzero]) hk

end Sys2Proof.Proofs
end

section
/-! PROOFS. The data line in closed form and the receiver, 40_matrix_driver.md R149: the pulse-width code is uniquely decodable,
and a FLUSH or BYTE puts its framebuffer on the line in that code. -/

namespace Sys2Proof.Proofs

open Sys2Proof Sys2Proof.Machine

/-! ### The parameters that R9 allows -/

/-- What the receiver needs of R9's constraints: both high parts are pulses, they differ, each bit cell ends low, and no low
part of a bit cell is as long as the period that ends a frame. -/
theorem allowed_code {c : Params} (h : c.Allowed) :
    0 < c.t0hCycles ∧ c.t0hCycles < c.t1hCycles ∧ c.t1hCycles < c.bitCycles ∧ c.bitCycles < c.latchCycles := by
  unfold Params.Allowed Params.Lasts Config.dist at h
  simp only [Config.tBitNom, Config.t0hNom, Config.tTol] at h
  obtain ⟨hclk, hbit, ht0h, -, hlt, hcell, -⟩ := h
  unfold Params.latchCycles
  omega

theorem highCycles_bounds {c : Params} (h : c.Allowed) (b : Bool) :
    0 < highCycles c b ∧ highCycles c b < c.bitCycles ∧ c.bitCycles < c.latchCycles := by
  obtain ⟨ht0, ht1, hcell, hlatch⟩ := allowed_code h
  cases b <;> simp only [highCycles, Bool.false_eq_true, if_true, if_false] <;> omega

theorem highCycles_le {c : Params} (h : c.Allowed) (b : Bool) : highCycles c b ≤ c.bitCycles := by
  obtain ⟨_, hcell, _⟩ := highCycles_bounds h b
  exact Nat.le_of_lt hcell

/-- The two high times are told apart. -/
theorem pulseBit_highCycles {c : Params} (h : c.Allowed) (b : Bool) : pulseBit c (highCycles c b) = some b := by
  obtain ⟨_, hne, _⟩ := allowed_code h
  cases b with
  | true => simp [pulseBit, highCycles]
  | false => simp [pulseBit, highCycles, Nat.ne_of_lt hne]

/-! ### The receiver on a line that stays at one level -/

/-- The receiver between two pulses: `low` cycles into a low period, with the bits and frames so far. -/
def between (low : Nat) (bits : List (Option Bool)) (frames : List (List (Option Bool))) : Receiver :=
  { high := 0, low := low, bits := bits, frames := frames }

theorem sample_high (c : Params) (r : Receiver) : r.sample c true = { r with high := r.high + 1, low := 0 } := rfl

/-- The end of a pulse gives its bit; where frames end later than after one low cycle, nothing else. -/
theorem sample_end_of_pulse {c : Params} {r : Receiver} (hhigh : r.high ≠ 0) (hlatch : r.low + 1 ≠ c.latchCycles) :
    r.sample c false = between (r.low + 1) (r.bits ++ [pulseBit c r.high]) r.frames := by
  simp [Receiver.sample, between, hhigh, hlatch]

theorem sample_low {c : Params} {l : Nat} {bits : List (Option Bool)} (frames : List (List (Option Bool)))
    (h : l + 1 ≠ c.latchCycles ∨ bits = []) :
    (between l bits frames).sample c false = between (l + 1) bits frames := by
  rcases h with hl | rfl
  · simp [Receiver.sample, between, hl]
  · simp [Receiver.sample, between]

theorem sample_end_of_frame {c : Params} {l : Nat} {bits : List (Option Bool)} (frames : List (List (Option Bool)))
    (hl : l + 1 = c.latchCycles) (hbits : bits ≠ []) :
    (between l bits frames).sample c false = between (l + 1) [] (frames ++ [bits]) := by
  simp [Receiver.sample, between, hl, hbits]

theorem samples_high (c : Params) (n : Nat) (r : Receiver) :
    (List.replicate (n + 1) true).foldl (Receiver.sample c) r = { r with high := r.high + (n + 1), low := 0 } := by
  induction n generalizing r with
  | zero => rfl
  | succ n ih =>
    rw [List.replicate_succ, List.foldl_cons, sample_high, ih, Nat.add_assoc, Nat.add_comm 1]

/-- A low period that does not reach the end of a frame, or finds no bits, is only counted. -/
theorem samples_low {c : Params} (n : Nat) {l : Nat} {bits : List (Option Bool)} (frames : List (List (Option Bool)))
    (h : l + n < c.latchCycles ∨ bits = []) :
    (List.replicate n false).foldl (Receiver.sample c) (between l bits frames) = between (l + n) bits frames := by
  induction n generalizing l with
  | zero => rfl
  | succ n ih =>
    rw [List.replicate_succ, List.foldl_cons, sample_low frames (h.imp_left (by omega)), ih (h.imp_left (by omega)),
      Nat.add_assoc, Nat.add_comm 1]

/-- A low period that reaches the end of a frame reports the bits, once. -/
theorem samples_end_of_frame {c : Params} {n l : Nat} {bits : List (Option Bool)} (frames : List (List (Option Bool)))
    (hl : l < c.latchCycles) (hn : c.latchCycles ≤ l + n) (hbits : bits ≠ []) :
    (List.replicate n false).foldl (Receiver.sample c) (between l bits frames) = between (l + n) [] (frames ++ [bits]) := by
  obtain ⟨before, hbefore⟩ : ∃ k, l + k + 1 = c.latchCycles := ⟨c.latchCycles - 1 - l, by omega⟩
  obtain ⟨after, rfl⟩ : ∃ k, n = before + (k + 1) := ⟨n - before - 1, by omega⟩
  rw [List.replicate_add, List.foldl_append, samples_low before frames (.inl (by omega)), List.replicate_succ,
    List.foldl_cons, sample_end_of_frame frames hbefore hbits, samples_low after _ (.inr rfl)]
  congr 1
  omega

/-! ### The receiver on bit cells -/

/-- A bit cell gives its bit, and leaves the line low for less than the period that ends a frame. -/
theorem samples_bitCell {c : Params} (h : c.Allowed) (b : Bool) (l : Nat) (bits : List (Option Bool))
    (frames : List (List (Option Bool))) :
    (bitCell c b).foldl (Receiver.sample c) (between l bits frames) =
      between (c.bitCycles - highCycles c b) (bits ++ [some b]) frames := by
  obtain ⟨hpulse, hcell, hlatch⟩ := highCycles_bounds h b
  obtain ⟨high, hhigh⟩ := Nat.exists_eq_add_one_of_ne_zero (Nat.ne_of_gt hpulse)
  obtain ⟨low, hlow⟩ := Nat.exists_eq_add_one_of_ne_zero (Nat.sub_ne_zero_of_lt hcell)
  have hup : (List.replicate (high + 1) true).foldl (Receiver.sample c) (between l bits frames) =
      { high := highCycles c b, low := 0, bits := bits, frames := frames } := by
    rw [samples_high, hhigh, between, Nat.zero_add]
  have hdown : Receiver.sample c { high := highCycles c b, low := 0, bits := bits, frames := frames } false =
      between 1 (bits ++ [some b]) frames := by
    have hlong : 0 + 1 ≠ c.latchCycles := by omega
    rw [sample_end_of_pulse (Nat.ne_of_gt hpulse) hlong, pulseBit_highCycles h b]
  rw [bitCell, List.foldl_append, hlow, hhigh, hup, List.replicate_succ, List.foldl_cons, hdown,
    samples_low low frames (.inl (by omega)), Nat.add_comm 1]

/-- Any bits put on the line are recovered in order, and the last cell leaves the frame open. -/
theorem samples_lineOfBits {c : Params} (h : c.Allowed) (bits : List Bool) :
    ∀ {l : Nat} (before : List (Option Bool)) (frames : List (List (Option Bool))), l < c.latchCycles →
      ∃ l', l' < c.latchCycles ∧
        (lineOfBits c bits).foldl (Receiver.sample c) (between l before frames) =
          between l' (before ++ bits.map some) frames := by
  induction bits with
  | nil => exact fun {l} before frames hl => ⟨l, hl, by simp [lineOfBits]⟩
  | cons b bits ih =>
    intro l before frames hl
    obtain ⟨_, _, hlatch⟩ := highCycles_bounds h b
    obtain ⟨l', hl', heq⟩ := ih (l := c.bitCycles - highCycles c b) (before ++ [some b]) frames (by omega)
    refine ⟨l', hl', ?_⟩
    rw [lineOfBits, List.flatMap_cons, List.foldl_append, samples_bitCell h]
    simpa [lineOfBits] using heq

/-- Settles O37: the bit cells give the bits one by one, and the low period ends the frame, once. -/
theorem receiverRecoversAnyBits : Obligations.ReceiverRecoversAnyBits := by
  intro c bits n h hbits hn
  obtain ⟨_, _, _, hlatch⟩ := allowed_code h
  obtain ⟨l, hl, hline⟩ := samples_lineOfBits h bits (l := 0) [] [] (by omega)
  have hlong : c.latchCycles ≤ n := (latchCycles_le_iff c n).mpr hn
  have hstart : Receiver.start = between 0 [] [] := rfl
  rw [receive, List.foldl_append, hstart, hline, samples_end_of_frame [] hl (by omega) (by simpa using hbits)]
  rfl

/-! ### The line of a transmission -/

/-- A bit cell, sample by sample. -/
theorem bitCell_eq_map {c : Params} {b : Bool} (h : highCycles c b ≤ c.bitCycles) :
    bitCell c b = (List.range c.bitCycles).map fun j => decide (j < highCycles c b) := by
  apply List.ext_getElem
  · simp [bitCell, h]
  · intro j hj _
    simp [bitCell, List.getElem_append]

/-- The bit cells of a sequence of bits, sample by sample: R149's closed form. -/
theorem lineOfBits_eq_map {c : Params} (h : ∀ b, highCycles c b ≤ c.bitCycles) (bit : Nat → Bool) (n : Nat) :
    lineOfBits c ((List.range n).map bit) =
      (List.range (n * c.bitCycles)).map fun m => decide (m % c.bitCycles < highCycles c (bit (m / c.bitCycles))) := by
  induction n with
  | zero => simp [lineOfBits]
  | succ n ih =>
    have hcell : bitCell c (bit n) = (List.range c.bitCycles).map fun j =>
        decide ((n * c.bitCycles + j) % c.bitCycles < highCycles c (bit ((n * c.bitCycles + j) / c.bitCycles))) := by
      rw [bitCell_eq_map (h _)]
      refine List.map_congr_left fun j hj => ?_
      have hin : j < c.bitCycles := List.mem_range.mp hj
      rw [Nat.mul_comm n, Nat.mul_add_mod, Nat.mod_eq_of_lt hin, Nat.mul_add_div (by omega), Nat.div_eq_of_lt hin,
        Nat.add_zero]
    rw [Nat.succ_mul, List.range_add (n := n * c.bitCycles), List.map_append, ← ih, List.map_map, List.range_succ,
      List.map_append, lineOfBits, List.flatMap_append]
    simp [lineOfBits, hcell, Function.comp_def]

/-- The samples of a run, from what `DOUT` is in each of its cycles. -/
theorem doutAlong_eq_map (n : Nat) {s : State} {f : Nat → Bool}
    (h : ∀ m < n, ∃ t : State, stateAfter m s = some t ∧ t.outputs.dout = f m) :
    doutAlong n s = (List.range n).map f := by
  induction n generalizing s f with
  | zero => rfl
  | succ n ih =>
    obtain ⟨t, ht⟩ := step_next s
    obtain ⟨s', hs', hfirst⟩ := h 0 (Nat.succ_pos n)
    obtain rfl : s = s' := Option.some.inj hs'
    have hrest : doutAlong n t = (List.range n).map fun m => f (m + 1) := ih fun m hm => by
      rw [← stateAfter_succ_of_step m s t ht]
      exact h (m + 1) (Nat.succ_lt_succ hm)
    rw [List.range_succ_eq_map, List.map_cons, List.map_map, ← hfirst]
    simp only [doutAlong, ht, hrest]
    rfl

/-- A transmission's line is the bit cells of its frame and then low for the gap. -/
theorem frameLine_samples {c : Params} (h : c.Allowed) (fb : Framebuffer) :
    (List.range c.busyCycles).map (frameLine c fb) =
      lineOfBits c (frameBits fb) ++ List.replicate c.gapCycles false := by
  have hbits : lineOfBits c (frameBits fb) = (List.range c.frameCycles).map (frameLine c fb) := by
    rw [frameBits, lineOfBits_eq_map (highCycles_le h)]
    exact List.map_congr_left fun m hm => (frameLine_of_lt c fb (List.mem_range.mp hm)).symm
  have hgap : (List.range c.gapCycles).map (fun m => frameLine c fb (c.frameCycles + m)) =
      List.replicate c.gapCycles false :=
    List.eq_replicate_iff.mpr ⟨by simp, by
      simp only [List.mem_map, forall_exists_index, and_imp]
      rintro _ m _ rfl
      exact frameLine_of_ge c fb (Nat.le_add_right _ _)⟩
  rw [Params.busyCycles, List.range_add, List.map_append, List.map_map, hbits, ← hgap]
  rfl

/-- Settles O36: each cycle's level is that of the closed form, and the samples of the closed form are the frame's bit cells
followed by the gap, which the receiver decodes. -/
theorem waveformHasItsClosedForm : Obligations.WaveformHasItsClosedForm := by
  intro s i hpos hcmd hsends hno
  obtain ⟨t1, h⟩ := step_next s
  have hcycles := transmission_of_accepted hpos hcmd hsends hno h
  refine ⟨t1, stateAfter_succ_of_step 0 s t1 h, fun m hm => ?_, fun hallowed => ?_⟩
  · obtain ⟨t, hrun, -, hat⟩ := hcycles m (Nat.le_of_lt hm)
    have hdout := dout_of_transmissionAt hat
    obtain ⟨-, hfb, -⟩ := hat
    refine ⟨t, by rwa [Nat.add_comm], hfb, fun hframe => ?_, fun hgap => hdout.trans (frameLine_of_ge _ _ hgap)⟩
    exact hdout.trans (frameLine_of_lt _ _ hframe)
  · have hline : doutAlong s.cfg.busyCycles t1 = (List.range s.cfg.busyCycles).map (frameLine s.cfg t1.fb) :=
      doutAlong_eq_map _ fun m hm => by
        obtain ⟨t, -, hrun, hat⟩ := hcycles m (Nat.le_of_lt hm)
        exact ⟨t, hrun, dout_of_transmissionAt hat⟩
    obtain ⟨_, _, _, _, _, _, hgap, _⟩ := id hallowed
    rw [hline, frameLine_samples hallowed]
    exact receiverRecoversAnyBits s.cfg (frameBits t1.fb) s.cfg.gapCycles hallowed (by simp [frameBits]) hgap

end Sys2Proof.Proofs
end

section
/-! PROOFS. The glyph front end, 41_glyph_frontend.md: GLYPH (R172) and BYTE (R174, R175) at their acceptance. -/

namespace Sys2Proof.Proofs

open Sys2Proof Sys2Proof.Machine

/-- Settles O6: below 10 GLYPH is a write of the digit's glyph, from 10 on it raises `InvalidDigit`. -/
theorem glyphWritesEveryCellOrFails : Obligations.GlyphWritesEveryCellOrFails := by
  intro s d
  refine ⟨fun hdigit => ⟨_, exec_glyph_of_lt d s hdigit, rfl, fun j => ?_⟩, fun hother => exec_glyph_of_ge d s hother⟩
  exact Glyph.image_getElem (glyphRom ⟨d.toNat, hdigit⟩) j j.isLt

/-- Settles O7: BYTE is the echo, a write of the byte's image and `start_tx` at one edge. -/
theorem byteEchoesWritesAndTransmits : Obligations.ByteEchoesWritesAndTransmits :=
  fun _ c => ⟨_, rfl, rfl, byteImage_getElem c⟩

end Sys2Proof.Proofs
end

section
/-! PROOFS. The cycle as simultaneous assignments: the step, made of operations in sequence, gives every register the value that
the rules assign it from the values of the current cycle (00_scope.md R13, 40_matrix_driver.md R140 to R144, 42_debounce.md
R201). -/

namespace Sys2Proof.Proofs

open Sys2Proof Sys2Proof.Machine

/-! ### Unit M after an accepted command: R131 to R133, R141, R172, R174, R175 -/

/-- What a command leaves in the framebuffer, cell by cell. -/
theorem exec_command_fb {i : Instr} {s u : State} (hi : i.isCommand = true) (h : exec i s = .next u) :
    u.fb = Vector.ofFn fun j : Fin 25 => cellAfter i j s.fb[j] := by
  apply Vector.ext
  intro j hj
  rw [Vector.getElem_ofFn]
  cases i with
  | set idx pix =>
    rcases Nat.lt_or_ge idx.toNat 25 with hin | hout
    · rw [exec_set_of_lt idx pix s hin] at h
      cases h
      exact writeCell_getElem s.fb idx.toNat pix j hj
    · rw [exec_set_of_ge idx pix s hout] at h
      cases h
      exact (if_neg (by omega)).symm
  | glyph d =>
    rcases Nat.lt_or_ge d.toNat 10 with hdigit | hother
    · rw [exec_glyph_of_lt d s hdigit] at h
      cases h
      rw [cellAfter, dif_pos hdigit]
      exact Glyph.image_getElem _ j hj
    · rw [exec_glyph_of_ge d s hother] at h
      cases h
      rw [cellAfter, dif_neg (Nat.not_lt_of_le hother)]
      rfl
  | byte c =>
    cases h
    obtain ⟨hdigit, hother⟩ := byteImage_getElem c
    by_cases hc : 48 ≤ c.toNat ∧ c.toNat < 58
    · rw [cellAfter, dif_pos hc]
      exact hdigit (by omega) ⟨j, hj⟩
    · rw [cellAfter, dif_neg hc]
      exact hother (by omega) ⟨j, hj⟩
  | clear => cases h; exact blankFramebuffer_getElem j hj
  | flush | reserved0 | reserved6 | reserved7 => cases h; rfl
  | edgeA | edgeB => cases hi

theorem startsTx_of_accepted {s : State} {x : Inputs} {i : Instr} (h : s.acceptedCommand x = some i) :
    s.startsTx x = i.transmits := by rw [State.startsTx, h]

/-- Of the commands only a BYTE echoes, and it transmits. -/
theorem echoes_of_not_transmits {s : State} {x : Inputs} {i : Instr} (h : s.acceptedCommand x = some i)
    (hno : i.transmits = false) : s.echoes x = none := by
  cases i with
  | byte c => cases hno
  | set _ _ | clear | flush | glyph _ | reserved0 | reserved6 | reserved7 | edgeA | edgeB => rw [State.echoes, h]

/-- An idle sequencer is at the end of nothing. -/
theorem no_end_of_idle {s : State} (h : s.txs = .idle) : s.endOfFrame = false ∧ s.endOfGap = false := by
  simp [State.endOfFrame, State.endOfGap, h]

/-- After an accepted command Unit M's registers are the assigned ones. -/
theorem sameUnitM_nextRegisters_of_accepted {s u : State} {x : Inputs} {i : Instr}
    (hcmd : s.acceptedCommand x = some i) (hi : i.isCommand = true) (hexec : exec i s.clearPulses = .next u) :
    SameUnitM u (nextRegisters x s) := by
  obtain ⟨_, _, hidle, _⟩ := (acceptedCommand_eq_some_iff s x i).mp hcmd
  have hfb : u.fb = nextFb x s := by
    rw [exec_command_fb hi hexec, nextFb, hcmd]
    rfl
  refine ⟨hfb, ?_⟩
  obtain ⟨hframe, hgap⟩ := no_end_of_idle hidle
  have hstarts := startsTx_of_accepted hcmd
  simp only [nextRegisters, nextTxs, nextPix, nextBitidx, nextPh, nextGapcnt, nextRspv, nextRspc, hcmd, hidle, hframe,
    hgap, hstarts]
  rcases exec_command_cases hi hexec with ⟨hno, fb, rfl⟩ | ⟨rfl, rfl⟩ | ⟨c, rfl, rfl⟩
  · simp [hidle, hno, echoes_of_not_transmits hcmd hno]
  · simp [Instr.transmits, State.echoes, hcmd, answerOf, RspCode.code]
  · simp [Instr.transmits, State.echoes, hcmd, answerOf, RspCode.code]

/-! ### Unit M while nothing is accepted: R142, R144, R145 -/

/-- The sequencer's part of a cycle register by register: each of its ways is the one that the counters' last values select. -/
theorem stepSequencer_eq (s : State) :
    s.stepSequencer =
      { s with
        txs := if s.endOfFrame then .gap else if s.endOfGap then .idle else s.txs
        pix := if s.endOfFrame then 0 else if s.txs == .shift && s.endOfPixel then s.pix + 1 else s.pix
        bitidx := if s.txs == .shift && s.endOfPixel then 23 else if s.txs == .shift && s.endOfCell then s.bitidx - 1
          else s.bitidx
        ph := if s.txs == .shift && s.endOfCell then 0 else if s.txs == .shift then s.ph + 1 else s.ph
        gapcnt := nextGapcnt s
        rspv := s.rspv || s.endOfGap
        rspc := if s.endOfGap then 0 else s.rspc } := by
  cases htxs : s.txs with
  | idle =>
    obtain ⟨hframe, hgap⟩ := no_end_of_idle htxs
    rw [stepSequencer_of_idle htxs]
    simp [State.ext_iff, nextGapcnt, htxs, hframe, hgap]
  | shift =>
    have hgap : s.endOfGap = false := by simp [State.endOfGap, htxs]
    rw [stepSequencer_of_shift htxs]
    rcases s.stepShift_cases with ⟨hph, h⟩ | ⟨hph, hbit, h⟩ | ⟨hph, hbit, hpix, h⟩ | ⟨hph, hbit, hpix, h⟩ <;> rw [h]
    · have hcell : s.endOfCell = false := decide_eq_false (Nat.not_le_of_lt hph)
      simp [nextGapcnt, State.endOfFrame, State.endOfPixel, htxs, hgap, hcell]
    · have hcell : s.endOfCell = true := decide_eq_true hph
      have hpixel : s.endOfPixel = false := by simp [State.endOfPixel, Nat.ne_of_gt hbit]
      simp [nextGapcnt, State.endOfFrame, htxs, hgap, hcell, hpixel]
    · have hcell : s.endOfCell = true := decide_eq_true hph
      have hpixel : s.endOfPixel = true := by simp [State.endOfPixel, hcell, hbit]
      have hframe : s.endOfFrame = false := by simp [State.endOfFrame, Nat.not_le_of_lt hpix]
      simp [nextGapcnt, htxs, hgap, hcell, hpixel, hframe]
    · have hcell : s.endOfCell = true := decide_eq_true hph
      have hpixel : s.endOfPixel = true := by simp [State.endOfPixel, hcell, hbit]
      have hframe : s.endOfFrame = true := by simp [State.endOfFrame, htxs, hpixel, hpix]
      simp [nextGapcnt, hgap, hcell, hpixel, hframe]
  | gap =>
    have hframe : s.endOfFrame = false := by simp [State.endOfFrame, htxs]
    rw [stepSequencer_of_gap htxs]
    rcases s.stepGap_cases with ⟨hin, h⟩ | ⟨hend, h⟩ <;> rw [h]
    · have hgap : s.endOfGap = false := by simp [State.endOfGap, Nat.not_le_of_lt hin]
      simp [nextGapcnt, htxs, hframe, hgap]
    · have hgap : s.endOfGap = true := by simp [State.endOfGap, htxs, hend]
      simp [nextGapcnt, hframe, hgap]

/-- Without an accepted command Unit M's registers are the assigned ones. -/
theorem sameUnitM_nextRegisters_of_unaccepted {s : State} {x : Inputs} (hnone : s.acceptedCommand x = none) :
    SameUnitM s.clearPulses.stepSequencer (nextRegisters x s) := by
  have hstarts : s.startsTx x = false := by rw [State.startsTx, hnone]
  rw [stepSequencer_eq]
  simp only [nextRegisters, nextFb, nextTxs, nextPix, nextBitidx, nextPh, nextRspv, nextRspc, State.echoes, hnone,
    hstarts, Bool.false_or, Bool.false_eq_true, if_false]
  exact ⟨rfl, rfl, rfl, rfl, rfl, rfl, rfl, ite_self _, rfl, rfl⟩

/-! ### The whole step: R13, R201 -/

/-- Unit D's registers after a step without reset are the assigned ones. -/
theorem sameUnitD_nextRegisters {s t : State} (hr : s.input.rst = false) (h : step s = .next t) :
    SameUnitD t (nextRegisters s.input s) := by
  obtain ⟨_, hpre, hnow, hbtn⟩ := step_unitD hr h
  exact ⟨hbtn .a, hbtn .b, hnow, hpre, step_refv hr h⟩

/-- A step without reset keeps the parameters and uses up the cycle's inputs. -/
theorem step_environment {s t : State} (hr : s.input.rst = false) (h : step s = .next t) :
    t.cfg = s.cfg ∧ t.inputs = s.inputs.tail ∧ t.envTick = s.envTick + 1 := by
  obtain ⟨u, rfl, ⟨_, hcfg, hinputs, henv⟩, _⟩ := step_cases_with_frame hr h
  simp [eventsDone_eq, clockPhase, hcfg, hinputs, henv]

theorem sameUnitM_clock_events_left_iff (x : Inputs) (u v : State) :
    SameUnitM (clockPhase x (eventsDone u)) v ↔ SameUnitM u v := by
  rw [eventsDone_eq]
  rfl

/-- Unit M's registers after a step without reset are the assigned ones. -/
theorem sameUnitM_nextRegisters {s t : State} (hr : s.input.rst = false) (h : step s = .next t) :
    SameUnitM t (nextRegisters s.input s) := by
  obtain ⟨u, rfl, hu⟩ := step_cases_of_noReset hr h
  rw [sameUnitM_clock_events_left_iff]
  rcases hu with ⟨_, hcmd, hexec⟩ | ⟨hnone, rfl⟩
  · exact sameUnitM_nextRegisters_of_accepted hcmd (decodeCommand_isCommand _) hexec
  · exact sameUnitM_nextRegisters_of_unaccepted hnone

/-- Settles O24: Unit M, Unit D and the environment are all the fields of a state. -/
theorem stepIsTheSimultaneousAssignment : Obligations.StepIsTheSimultaneousAssignment := by
  intro s hr
  obtain ⟨t, ht⟩ := step_next s
  obtain ⟨hfb, htxs, hpix, hbitidx, hph, hgapcnt, hrspv, hrspc, hechov, hechoc⟩ := sameUnitM_nextRegisters hr ht
  obtain ⟨hA, hB, hnow, hpre, hrefv⟩ := sameUnitD_nextRegisters hr ht
  obtain ⟨hcfg, hinputs, henv⟩ := step_environment hr ht
  rw [ht]
  exact congrArg Host.Outcome.next (State.ext hfb htxs hpix hbitidx hph hgapcnt hrspv hrspc hechov hechoc hA hB hnow hpre
    hrefv hcfg hinputs henv)

end Sys2Proof.Proofs
end

section
/-! PROOFS. The debounce, 42_debounce.md: the event operations with their guard (R198 to R200), one cycle of Unit D (R197, R201
to R204), and along a run the timer (R191), the synchronizer (R196, R272) and the accepted edges (R208). -/

namespace Sys2Proof.Proofs

open Sys2Proof Sys2Proof.Machine

/-! ### The event operations: R198, R199, R200 -/

/-- A button that was seen does not pass the guard while at most 200 000 µs have elapsed. -/
theorem pass_eq_false {b : ButtonRegs} {c : Params} {now : Nat} (hseen : b.seen = true)
    (h : ((now : Int) - b.last) % (2 ^ c.timeBits : Nat) ≤ 200000) : b.pass c now = false := by
  rw [← Bool.not_eq_true, ButtonRegs.pass_iff, hseen]
  simpa using h

theorem debounce_of_pass {k : ButtonId} {s : State} (h : (s.btn k).pass s.cfg s.now = true) :
    s.debounce k = (s.setBtn k ((s.btn k).accept s.now)).emitRefresh := if_pos h

theorem debounce_of_not_pass {k : ButtonId} {s : State} (h : (s.btn k).pass s.cfg s.now = false) : s.debounce k = s :=
  if_neg (by simp [h])

/-- Settles O9: the guard decides between all the updates of an accepted edge and none. -/
theorem edgeATogglesOrIsDropped : Obligations.EdgeATogglesOrIsDropped := by
  refine fun s => ⟨fun hpass => ?_, fun hseen hwindow => ?_⟩
  · exact congrArg Host.Outcome.next (debounce_of_pass (k := .a) ((ButtonRegs.pass_iff _ _ _).mpr hpass))
  · exact congrArg Host.Outcome.next (debounce_of_not_pass (k := .a) (pass_eq_false hseen hwindow))

/-- Settles O10: the same handler with the registers of button B. -/
theorem edgeBTogglesOrIsDropped : Obligations.EdgeBTogglesOrIsDropped := by
  refine fun s => ⟨fun hpass => ?_, fun hseen hwindow => ?_⟩
  · exact congrArg Host.Outcome.next (debounce_of_pass (k := .b) ((ButtonRegs.pass_iff _ _ _).mpr hpass))
  · exact congrArg Host.Outcome.next (debounce_of_not_pass (k := .b) (pass_eq_false hseen hwindow))

/-! ### One button in one cycle: R197, R201 to R204 -/

theorem nextButton_of_acc {b : ButtonRegs} {c : Params} {now : Nat} (x : Bool) (h : b.acc c now = true) :
    (nextButton b c now x).level = !b.level ∧ (nextButton b c now x).last = now ∧
      (nextButton b c now x).seen = true := by
  simp [nextButton, h]

theorem nextButton_of_not_acc {b : ButtonRegs} {c : Params} {now : Nat} (x : Bool) (h : b.acc c now = false) :
    (nextButton b c now x).level = b.level ∧ (nextButton b c now x).last = b.last ∧
      (nextButton b c now x).seen = b.seen := by
  simp [nextButton, h]

/-- An edge is accepted when the flops show it and it passes the guard (R197, R198). -/
theorem acc_iff (b : ButtonRegs) (c : Params) (now : Nat) : b.acc c now = true ↔ b.s3 = true ∧ b.s2 = false ∧
    (b.seen = false ∨ 200000 < ((now : Int) - b.last) % (2 ^ c.timeBits : Nat)) := by
  rw [ButtonRegs.acc, Bool.and_eq_true, ButtonRegs.pass_iff, ButtonRegs.fall, Bool.and_eq_true, Bool.not_eq_true', and_assoc]

/-- Settles O28: each button takes its next registers, whose Button State is decided by acceptance. -/
theorem detectedEdgesMeetTheGuard : Obligations.DetectedEdgesMeetTheGuard := by
  intro s t hr h
  obtain ⟨_, _, _, hbtn⟩ := step_unitD hr h
  refine ⟨fun k => ?_, ?_, ledOut_getLsbD t⟩
  · rw [hbtn k]
    exact ⟨rfl, rfl, rfl, nextButton_of_acc _, nextButton_of_not_acc _, acc_iff _ _ _⟩
  · have hrefresh : t.outputs.refreshValid = (s.btnA.acc s.cfg s.now || s.btnB.acc s.cfg s.now) := step_refv hr h
    rw [hrefresh, Bool.or_eq_true]
    constructor
    · rintro (hA | hB)
      · exact ⟨.a, hA⟩
      · exact ⟨.b, hB⟩
    · rintro ⟨k, hk⟩
      cases k with
      | a => exact .inl hk
      | b => exact .inr hk

/-- Settles O29: the flop that shows 0 after a falling edge is the edge flop of the next cycle; reset clears both. -/
theorem noEdgesInConsecutiveCycles : Obligations.NoEdgesInConsecutiveCycles := by
  intro s t k h hfall
  cases hr : s.input.rst with
  | true =>
    rw [step_eq_reset hr h]
    cases k with
    | a | b => rfl
  | false =>
    obtain ⟨_, _, _, hbtn⟩ := step_unitD hr h
    obtain ⟨_, hs2⟩ : (s.btn k).s3 = true ∧ (s.btn k).s2 = false := by simpa [ButtonRegs.fall] using hfall
    rw [hbtn k]
    simp [nextButton, ButtonRegs.fall, hs2]

/-! ### Runs without reset, cycle by cycle -/

/-- The inputs of the `m`-th cycle of a run are those that its first state gives for that cycle. -/
theorem inputAt_of_run (m : Nat) :
    ∀ {s u : State}, NoReset m s → stateAfter m s = some u → ∀ j, u.inputAt j = s.inputAt (m + j) := by
  induction m with
  | zero =>
    intro s u _ hrun j
    obtain rfl : s = u := Option.some.inj hrun
    rw [Nat.zero_add]
  | succ m ih =>
    intro s u hno hrun j
    obtain ⟨v, hv⟩ := step_next s
    obtain ⟨_, hinputs, henv⟩ := step_environment (noReset_input m s hno) hv
    rw [stateAfter_succ_of_step m s v hv] at hrun
    rw [ih (noReset_of_step hno hv) hrun j, inputAt_of_tail s v _ hinputs henv, Nat.add_right_comm]

/-- What holds at the start of a run without reset and is kept from each cycle to the next holds at its end. -/
theorem run_induction {P : Nat → State → Prop} {s : State} (n : Nat) (hno : NoReset n s) (hstart : P 0 s)
    (hstep : ∀ m u v, m < n → stateAfter m s = some u → u.input = s.inputAt m → u.input.rst = false →
      step u = .next v → P m u → P (m + 1) v) :
    ∃ t, stateAfter n s = some t ∧ P n t := by
  induction n with
  | zero => exact ⟨s, rfl, hstart⟩
  | succ n ih =>
    have hno' := noReset_of_le n (n + 1) s (Nat.le_succ n) hno
    obtain ⟨u, hrun, hu⟩ := ih hno' fun m u v hm => hstep m u v (Nat.lt_succ_of_lt hm)
    obtain ⟨v, hv⟩ := step_next u
    have hinput : u.input = s.inputAt n := inputAt_of_run n hno' hrun 0
    have hr : u.input.rst = false := hinput ▸ hno n (Nat.lt_succ_self n)
    exact ⟨v, stateAfter_step n s u v hrun hv, hstep n u v (Nat.lt_succ_self n) hrun hinput hr hv hu⟩

/-- Right after reset a button holds R50's values, whatever the parameters and the environment. -/
theorem btn_of_reset {s : State} {p : Params} {xs : List Inputs} {e : Nat} (k : ButtonId)
    (hs : s = { State.reset with cfg := p, inputs := xs, envTick := e }) : s.btn k = ButtonRegs.reset := by
  subst hs
  cases k with
  | a | b => rfl

/-! ### The timer along a run: R191 -/

/-- Counted in cycles the timer is a quotient and its prescaler the remainder: within a microsecond one more cycle is one more
on the remainder, and at its end one more on the quotient. -/
theorem tick_div_mod {c : Params} (hus : 0 < c.usCycles) (now m : Nat) :
    tickPre c (m % c.usCycles) = (m + 1) % c.usCycles ∧
    tickNow c (m % c.usCycles) ((now + m / c.usCycles) % 2 ^ c.timeBits) =
      (now + (m + 1) / c.usCycles) % 2 ^ c.timeBits := by
  have hlt := Nat.mod_lt m hus
  have hm := Nat.mod_add_div m c.usCycles
  rcases Nat.lt_or_ge (m % c.usCycles) (c.usCycles - 1) with hin | hend
  · obtain ⟨hdiv, hmod⟩ : (m + 1) / c.usCycles = m / c.usCycles ∧ (m + 1) % c.usCycles = m % c.usCycles + 1 :=
      (Nat.div_mod_unique hus).mpr ⟨by omega, by omega⟩
    rw [tickPre_of_lt _ _ hin, tickNow_of_lt _ _ _ hin, hdiv, hmod]
    exact ⟨rfl, rfl⟩
  · obtain ⟨hdiv, hmod⟩ : (m + 1) / c.usCycles = m / c.usCycles + 1 ∧ (m + 1) % c.usCycles = 0 :=
      (Nat.div_mod_unique hus).mpr ⟨by rw [Nat.mul_succ]; omega, hus⟩
    rw [tickPre_of_ge _ _ hend, tickNow_of_ge _ _ _ hend, hdiv, hmod, Nat.mod_add_mod]
    exact ⟨rfl, rfl⟩

/-- After `n` cycles without reset the timer has counted the whole microseconds among the cycles, from the phase that the
prescaler was at. -/
theorem timer_run {s : State} (n : Nat) (hus : 0 < s.cfg.usCycles) (hpre : TimerOk s)
    (hnow : s.now < 2 ^ s.cfg.timeBits) (hno : NoReset n s) :
    ∃ t, stateAfter n s = some t ∧ t.cfg = s.cfg ∧ t.pre = (s.pre + n) % s.cfg.usCycles ∧
      t.now = (s.now + (s.pre + n) / s.cfg.usCycles) % 2 ^ s.cfg.timeBits := by
  apply run_induction n hno
  · have hlt : s.pre < s.cfg.usCycles := by unfold TimerOk at hpre; omega
    rw [Nat.add_zero, Nat.mod_eq_of_lt hlt, Nat.div_eq_of_lt hlt, Nat.add_zero, Nat.mod_eq_of_lt hnow]
    exact ⟨rfl, rfl, rfl⟩
  · rintro m u v _ _ _ hr hv ⟨hcfg, hpre_u, hnow_u⟩
    obtain ⟨hcfg_v, hpre_v, hnow_v, _⟩ := step_unitD hr hv
    rw [hpre_v, hnow_v, hcfg_v, hcfg, hpre_u, hnow_u]
    exact ⟨rfl, tick_div_mod hus s.now (s.pre + m)⟩

/-- Settles O51: at reset the prescaler and the timer are 0. -/
theorem timerCountsMicrosecondsFromReset : Obligations.TimerCountsMicrosecondsFromReset := by
  intro n p xs e hus hno
  obtain ⟨t, hrun, _, hpre, hnow⟩ := timer_run n hus (Nat.zero_le _) (Nat.two_pow_pos _) hno
  refine ⟨t, hrun, ?_, ?_⟩
  · simpa [State.reset] using hnow
  · simpa [State.reset] using hpre

/-! ### The guard along a run: R208 (c) -/

/-- More than 200 000 whole microseconds lie in `D` cycles from phase `pre`: by their number alone, or in the last microsecond
before it by the phase. -/
theorem guard_boundary {us pre D : Nat} (hpre : pre < us) :
    200000 < (pre + D) / us ↔ 200001 * us ≤ D ∨ (200000 * us < D ∧ us ≤ pre + D % us) := by
  have hus : 0 < us := Nat.zero_lt_of_lt hpre
  rw [← Nat.succ_le_iff, Nat.le_div_iff_mul_le hus]
  rcases Nat.lt_or_ge D (200000 * us) with hshort | hlong
  · omega
  · rcases Nat.lt_or_ge D (200001 * us) with hin | hout
    · obtain ⟨_, hmod⟩ : D / us = 200000 ∧ D % us = D - 200000 * us :=
        (Nat.div_mod_unique hus).mpr ⟨by omega, by omega⟩
      omega
    · omega

/-- Settles O55: between the two edges the timer counts the cycles, and the guard compares what it counted. -/
theorem guardBoundaryInCycles : Obligations.GuardBoundaryInCycles := by
  intro D s u k hus hpre hnow hno _ hturn hrun hseen hlast
  obtain ⟨t, hrun', hcfg, _, hnow_t⟩ := timer_run D hus hpre hnow hno
  obtain rfl : u = t := Option.some.inj (hrun.symm.trans hrun')
  have hphase : s.pre < s.cfg.usCycles := by unfold TimerOk at hpre; omega
  have helapsed : ((u.now : Int) - (u.btn k).last) % (2 ^ u.cfg.timeBits : Nat) =
      ((s.pre + D) / s.cfg.usCycles : Nat) := by
    rw [hlast, hcfg, hnow_t, Int.natCast_emod, Int.emod_sub_emod, Nat.cast_add, add_sub_cancel_left,
      ← Int.natCast_emod, Nat.mod_eq_of_lt hturn]
  have hguard : (u.btn k).pass u.cfg u.now = true ↔ 200001 * s.cfg.usCycles ≤ D ∨
      (200000 * s.cfg.usCycles < D ∧ s.cfg.usCycles ≤ s.pre + D % s.cfg.usCycles) := by
    rw [ButtonRegs.pass_iff, helapsed, hseen, Nat.ofNat_lt_cast, guard_boundary hphase]
    simp
  refine ⟨hguard, fun hdefault => ?_⟩
  rw [hguard, hdefault]
  omega

/-! ### The synchronizer along a run: R193, R195 to R197, R272 -/

/-- The sample of `d` cycles before cycle `m` of a run from `s`; before the run the flops' reset value. -/
def sampleBefore (s : State) (k : ButtonId) (m d : Nat) : Bool :=
  if d ≤ m then buttonSample (s.inputAt (m - d)) k else false

theorem sampleBefore_succ_succ (s : State) (k : ButtonId) (m d : Nat) :
    sampleBefore s k (m + 1) (d + 1) = sampleBefore s k m d := by
  simp [sampleBefore]

/-- From reset the three flops are a shift register of the samples. -/
theorem flops_run {s : State} {p : Params} {xs : List Inputs} {e : Nat} (n : Nat) (k : ButtonId)
    (hs : s = { State.reset with cfg := p, inputs := xs, envTick := e }) (hno : NoReset n s) :
    ∃ t, stateAfter n s = some t ∧ (t.btn k).s1 = sampleBefore s k n 1 ∧ (t.btn k).s2 = sampleBefore s k n 2 ∧
      (t.btn k).s3 = sampleBefore s k n 3 := by
  apply run_induction n hno
  · rw [btn_of_reset k hs]
    exact ⟨rfl, rfl, rfl⟩
  · rintro m u v _ _ hinput hr hv ⟨hs1, hs2, _⟩
    obtain ⟨_, _, _, hbtn⟩ := step_unitD hr hv
    rw [hbtn k, sampleBefore_succ_succ, sampleBefore_succ_succ, sampleBefore_succ_succ, ← hs1, ← hs2, hinput]
    exact ⟨rfl, rfl, rfl⟩

/-- Settles O52: the third flop holds the sample of three cycles before, and up to cycle 2 there is none. -/
theorem synchronizerDelaysTheSamples : Obligations.SynchronizerDelaysTheSamples := by
  intro n p xs e s k hs hno
  obtain ⟨t, hrun, _, hs2, hs3⟩ := flops_run n k hs hno
  refine ⟨t, hrun, fun hearly => ?_, fun hlate => ?_⟩
  · have hzero : (t.btn k).s3 = false := hs3.trans (if_neg (by omega))
    exact ⟨hzero, by rw [ButtonRegs.fall, hzero, Bool.false_and]⟩
  · exact ⟨hs2.trans (if_pos (by omega)), hs3.trans (if_pos hlate)⟩

/-- A button in its reset state whose sample is 0 stays in it. -/
theorem nextButton_reset_low (c : Params) (now : Nat) : nextButton ButtonRegs.reset c now false = ButtonRegs.reset := rfl

/-- Settles O53: a button held low keeps its reset state, in which no flop is 1. -/
theorem heldButtonIsNoPress : Obligations.HeldButtonIsNoPress := by
  intro n p xs e s t k hs hno hlow hrun
  obtain ⟨t', hrun', hreset⟩ : ∃ t', stateAfter n s = some t' ∧ t'.btn k = ButtonRegs.reset := by
    apply run_induction n hno
    · exact btn_of_reset k hs
    · intro m u v hm _ hinput hr hv hu
      obtain ⟨_, _, _, hbtn⟩ := step_unitD hr hv
      rw [hbtn k, hu, hinput, hlow m hm, nextButton_reset_low]
  obtain rfl : t = t' := Option.some.inj (hrun.symm.trans hrun')
  rw [hreset]
  exact ⟨rfl, rfl, rfl⟩

/-! ### Accepted edges along a run: R208 (a), (d) -/

/-- Within 200 000 µs after its last accepted edge a button takes none, whatever its flops show. -/
theorem not_acc_in_window {b : ButtonRegs} (c : Params) {now : Nat} (hseen : b.seen = true) (hlast : b.last ≤ now)
    (hnow : now ≤ b.last + 200000) : b.acc c now = false := by
  have hmod : (now - b.last) % 2 ^ c.timeBits ≤ now - b.last := Nat.mod_le _ _
  have hwindow : ((now : Int) - b.last) % (2 ^ c.timeBits : Nat) ≤ 200000 := by
    rw [← Nat.cast_sub hlast, ← Int.natCast_emod]
    omega
  rw [ButtonRegs.acc, pass_eq_false hseen hwindow, Bool.and_false]

/-- Settles O54: each cycle of the window leaves the Button State, so the window stays the same one. -/
theorem chatterInTheWindowIsDropped : Obligations.ChatterInTheWindowIsDropped := by
  intro n s t k hseen hno hwindow hrun
  obtain ⟨t', hrun', hkept⟩ : ∃ t', stateAfter n s = some t' ∧ (t'.btn k).level = (s.btn k).level ∧
      (t'.btn k).last = (s.btn k).last ∧ (t'.btn k).seen = true := by
    apply run_induction n hno
    · exact ⟨rfl, rfl, hseen⟩
    · rintro m u v hm hrun_u _ hr hv ⟨hlevel, hlast, hseen_u⟩
      obtain ⟨_, _, _, hbtn⟩ := step_unitD hr hv
      obtain ⟨hle, hge⟩ := hwindow m u hm hrun_u
      have hno_acc := not_acc_in_window u.cfg hseen_u (hlast ▸ hle) (hlast ▸ hge)
      obtain ⟨hlevel_v, hlast_v, hseen_v⟩ := nextButton_of_not_acc (buttonSample u.input k) hno_acc
      rw [hbtn k]
      exact ⟨hlevel_v.trans hlevel, hlast_v.trans hlast, hseen_v.trans hseen_u⟩
  obtain rfl : t = t' := Option.some.inj (hrun.symm.trans hrun')
  exact hkept

theorem acceptedEdges_succ_of_step (k : ButtonId) (n : Nat) {s t : State} (h : step s = .next t) :
    acceptedEdges k (n + 1) s = (if (s.btn k).acc s.cfg s.now then 1 else 0) + acceptedEdges k n t := by
  simp only [acceptedEdges, h]

theorem decide_odd_count (b : Bool) (n : Nat) :
    decide (((if b then 1 else 0) + n) % 2 = 1) = (b ^^ decide (n % 2 = 1)) := by
  cases b with
  | false => simp
  | true =>
    rw [if_pos rfl, Bool.true_xor, ← decide_not]
    exact decide_eq_decide.mpr (by omega)

theorem decide_pos_count (b : Bool) (n : Nat) :
    decide (0 < (if b then 1 else 0) + n) = (b || decide (0 < n)) := by
  cases b <;> simp

/-- Over a run without reset each accepted edge toggles the level, and the first sets the seen bit. -/
theorem accepted_run (k : ButtonId) (n : Nat) : ∀ {s : State}, NoReset n s →
    ∃ t, stateAfter n s = some t ∧ (t.btn k).level = ((s.btn k).level ^^ decide (acceptedEdges k n s % 2 = 1)) ∧
      (t.btn k).seen = ((s.btn k).seen || decide (0 < acceptedEdges k n s)) := by
  induction n with
  | zero => exact fun {s} _ => ⟨s, rfl, (Bool.xor_false _).symm, (Bool.or_false _).symm⟩
  | succ n ih =>
    intro s hno
    obtain ⟨u, hu⟩ := step_next s
    obtain ⟨_, _, _, hbtn⟩ := step_unitD (noReset_input n s hno) hu
    obtain ⟨t, hrun, hlevel, hseen⟩ := ih (noReset_of_step hno hu)
    refine ⟨t, (stateAfter_succ_of_step n s u hu).trans hrun, ?_, ?_⟩
    · rw [hlevel, hbtn k, acceptedEdges_succ_of_step k n hu, decide_odd_count]
      exact Bool.xor_assoc _ _ _
    · rw [hseen, hbtn k, acceptedEdges_succ_of_step k n hu, decide_pos_count]
      exact Bool.or_assoc _ _ _

/-- Settles O56: at reset the level is 0 and the seen bit is 0. -/
theorem levelIsTheParityOfAcceptedEdges : Obligations.LevelIsTheParityOfAcceptedEdges := by
  intro n p xs e s k hs hno
  obtain ⟨t, hrun, hlevel, hseen⟩ := accepted_run k n hno
  rw [btn_of_reset k hs] at hlevel hseen
  exact ⟨t, hrun, hlevel.trans (Bool.false_xor _), hseen.trans (Bool.false_or _)⟩

end Sys2Proof.Proofs
end

section
/-! PROOFS. The errors, 60_exceptions.md: which operations fail and with which response (R231 to R233, R235, R237), and that a
failing operation does nothing but raise its error (R230). -/

namespace Sys2Proof.Proofs

open Sys2Proof Sys2Proof.Machine

/-! ### The one cause of each operation's error: R231 to R233, R235, R237 -/

theorem answerOf_set_of_lt (idx : BitVec 5) (pix : Pixel) (h : idx.toNat < 25) : answerOf (.set idx pix) = .ok :=
  if_neg (Nat.not_le_of_lt h)

theorem answerOf_set_of_ge (idx : BitVec 5) (pix : Pixel) (h : 25 ≤ idx.toNat) : answerOf (.set idx pix) = .outOfRange :=
  if_pos h

theorem answerOf_glyph_of_lt (d : Byte) (h : d.toNat < 10) : answerOf (.glyph d) = .ok :=
  if_neg (Nat.not_le_of_lt h)

theorem answerOf_glyph_of_ge (d : Byte) (h : 10 ≤ d.toNat) : answerOf (.glyph d) = .invalidDigit :=
  if_pos h

/-- Every operation that fails, with the cause of its error. -/
theorem answerOf_error_cases {i : Instr} (hfail : answerOf i ≠ .ok) :
    (∃ idx pix, i = .set idx pix ∧ 25 ≤ idx.toNat ∧ answerOf i = .outOfRange) ∨
    (∃ d, i = .glyph d ∧ 10 ≤ d.toNat ∧ answerOf i = .invalidDigit) ∨
    ((i = .reserved0 ∨ i = .reserved6 ∨ i = .reserved7) ∧ answerOf i = .illegalCommand) := by
  cases i with
  | set idx pix =>
    have hout : 25 ≤ idx.toNat := Nat.le_of_not_lt fun hin => hfail (answerOf_set_of_lt idx pix hin)
    exact .inl ⟨idx, pix, rfl, hout, answerOf_set_of_ge idx pix hout⟩
  | glyph d =>
    have hother : 10 ≤ d.toNat := Nat.le_of_not_lt fun hdigit => hfail (answerOf_glyph_of_lt d hdigit)
    exact .inr (.inl ⟨d, rfl, hother, answerOf_glyph_of_ge d hother⟩)
  | reserved0 => exact .inr (.inr ⟨.inl rfl, rfl⟩)
  | reserved6 => exact .inr (.inr ⟨.inr (.inl rfl), rfl⟩)
  | reserved7 => exact .inr (.inr ⟨.inr (.inr rfl), rfl⟩)
  | clear | flush | byte _ | edgeA | edgeB => exact absurd rfl hfail

/-! ### No partial effect: R230 -/

/-- All that a failing operation does is to raise the error it answers with. -/
theorem exec_of_error {i : Instr} (s : State) (hfail : answerOf i ≠ .ok) :
    exec i s = .next (s.raiseError (answerOf i)) := by
  obtain ⟨idx, pix, rfl, hout, hanswer⟩ | ⟨d, rfl, hother, hanswer⟩ | ⟨rfl | rfl | rfl, _⟩ := answerOf_error_cases hfail
  · rw [hanswer, exec_set_of_ge idx pix s hout]
  · rw [hanswer, exec_glyph_of_ge d s hother]
  · rfl
  · rfl
  · rfl

/-- Settles O11: a failing operation only raises its error, which writes the response registers alone, and each error has one
cause. -/
theorem failedCommandsHaveNoPartialEffect : Obligations.FailedCommandsHaveNoPartialEffect := by
  refine fun s i hfail => ⟨exec_of_error s hfail, ?_⟩
  obtain ⟨idx, pix, hset, hout, hanswer⟩ | ⟨d, hglyph, hother, hanswer⟩ | ⟨hreserved, hanswer⟩ := answerOf_error_cases hfail
  · exact .inl ⟨idx, pix, hset, hout, congrArg RspCode.code hanswer⟩
  · exact .inr (.inl ⟨d, hglyph, hother, congrArg RspCode.code hanswer⟩)
  · exact .inr (.inr ⟨hreserved, congrArg RspCode.code hanswer⟩)

end Sys2Proof.Proofs
end

section
/-! PROOFS. Reset, the total step and the waiting host, 70_reset_and_hazards.md: a reset cycle loads R50 (R271), every cycle has a
next state (R280), and the block is ready, and accepts a held command, within the length of one transmission (R281). -/

namespace Sys2Proof.Proofs

open Sys2Proof Sys2Proof.Machine

/-! ### Reset and the total step: R271, R280 -/

/-- Settles O2: reset is tested before every other rule of the cycle, and loads R50's values. -/
theorem resetInputOverridesEveryRule : Obligations.ResetInputOverridesEveryRule :=
  fun _ hr => if_pos hr

/-- A step, with reset or without, keeps the parameters and uses up the cycle's inputs. -/
theorem step_keeps_environment {s t : State} (h : step s = .next t) :
    t.cfg = s.cfg ∧ t.inputs = s.inputs.tail ∧ t.envTick = s.envTick + 1 := by
  cases hr : s.input.rst with
  | true =>
    rw [step_eq_reset hr h]
    exact ⟨rfl, rfl, rfl⟩
  | false => exact step_environment hr h

/-- Settles O23: the step has an outcome in every state, and no outcome but a next state that keeps the parameters. -/
theorem everyCycleHasANextState : Obligations.EveryCycleHasANextState := by
  intro s
  obtain ⟨t, ht⟩ := step_next s
  exact ⟨t, ht, step_keeps_environment ht⟩

/-! ### The wait for CMD_READY: R281 -/

theorem ready_iff (s : State) : s.ready = true ↔ s.txs = .idle := beq_iff_eq

/-- A response pulse is given only at rest, so a busy block that meets the invariant gives none (R51 (i)). -/
theorem rspv_of_busy {s : State} (h : ResponseOk s) (hbusy : s.txs ≠ .idle) : s.rspv = false := by
  obtain ⟨_, _, _, hidle⟩ := h
  exact Bool.eq_false_iff.mpr (mt hidle hbusy)

/-- A busy state that meets the invariant is some cycle of a transmission of its own framebuffer: in SHIFT its linear position
numbers the cycle, in GAP the frame's length and the gap counter do. -/
theorem transmissionAt_of_busy {s : State} (hpos : s.cfg.Positive) (hs : SequencerOk s) (hrsp : ResponseOk s)
    (hbusy : s.txs ≠ .idle) : ∃ m, m < s.cfg.busyCycles ∧ TransmissionAt s.cfg s.fb m s := by
  have hrspv := rspv_of_busy hrsp hbusy
  cases htxs : s.txs with
  | idle => exact absurd htxs hbusy
  | shift =>
    have hsends := sends_position hpos hs htxs
    have hframe := sends_lt hsends
    exact ⟨s.position, Nat.lt_of_lt_of_le hframe (frameCycles_le_busyCycles _), rfl, rfl, .inl ⟨hframe, hsends, hrspv⟩⟩
  | gap =>
    obtain ⟨hpix, hbitidx, hph, hgap⟩ := (sequencerOk_iff_of_gap htxs).mp hs
    obtain ⟨_, hgapPos, _⟩ := hpos
    have hin : s.cfg.frameCycles + s.gapcnt < s.cfg.busyCycles := by rw [busyCycles_eq_add]; omega
    have hcounts : CountsGap (s.cfg.frameCycles + s.gapcnt - s.cfg.frameCycles) s :=
      ⟨htxs, hpix, hbitidx, hph, (Nat.add_sub_cancel_left _ _).symm⟩
    exact ⟨_, hin, rfl, rfl, .inr (.inl ⟨Nat.le_add_right _ _, hin, hcounts, hrspv⟩)⟩

/-- `n` cycles from now is the first cycle in which the block is ready, and it is then in state `t`. -/
def FirstReady (n : Nat) (s t : State) : Prop :=
  stateAfter n s = some t ∧ t.ready = true ∧ ∀ m u, m < n → stateAfter m s = some u → u.ready = false

theorem firstReady_zero {s : State} (h : s.ready = true) : FirstReady 0 s s :=
  ⟨rfl, h, fun m _ hm => absurd hm (Nat.not_lt_zero m)⟩

/-- A transmission makes the block ready for the first time at its end. -/
theorem firstReady_of_transmissionAt {c : Params} {fb : Framebuffer} {m : Nat} {s : State} (hpos : c.Positive)
    (hs : TransmissionAt c fb m s) (hm : m ≤ c.busyCycles) (hno : NoReset (c.busyCycles - m) s) :
    ∃ t, FirstReady (c.busyCycles - m) s t := by
  obtain ⟨t, hrun, ht⟩ := transmission_run hpos _ hs hno (by omega)
  rw [Nat.add_sub_cancel' hm] at ht
  obtain ⟨hready, _⟩ := outputs_of_answers (transmissionAt_end ht)
  refine ⟨t, hrun, hready, fun j u hj hu => ?_⟩
  obtain ⟨v, hv, hat⟩ := transmission_run hpos j hs (noReset_of_le j _ s (Nat.le_of_lt hj) hno) (by omega)
  obtain rfl : v = u := Option.some.inj (hv.symm.trans hu)
  exact (transmissionAt_silent hat (by omega)).1

/-- From any state that meets the invariant the block is ready after at most one transmission. -/
theorem firstReady_within_busyCycles {s : State} (hpos : s.cfg.Positive) (hs : RegistersOk s)
    (hno : NoReset s.cfg.busyCycles s) : ∃ n t, n ≤ s.cfg.busyCycles ∧ FirstReady n s t := by
  obtain ⟨_, hseq, hrsp, _⟩ := hs
  by_cases hidle : s.txs = .idle
  · exact ⟨0, s, Nat.zero_le _, firstReady_zero ((ready_iff s).mpr hidle)⟩
  · obtain ⟨m, hm, hat⟩ := transmissionAt_of_busy hpos hseq hrsp hidle
    have hle := Nat.sub_le s.cfg.busyCycles m
    obtain ⟨t, ht⟩ := firstReady_of_transmissionAt hpos hat (Nat.le_of_lt hm) (noReset_of_le _ _ s hle hno)
    exact ⟨_, t, hle, ht⟩

/-- Settles O40: `CMD_READY` is the sequencer's being at rest. -/
theorem readyWithin17000Cycles : Obligations.ReadyWithin17000Cycles := by
  intro s hpos hs hno
  obtain ⟨n, t, hn, hrun, hready, _⟩ := firstReady_within_busyCycles hpos hs hno
  exact ⟨n, t, hn, hrun, hready⟩

/-! ### The held command: R101, R281 -/

theorem acceptedCommand_of_not_ready {s : State} (x : Inputs) (h : s.ready = false) : s.acceptedCommand x = none :=
  acceptedCommand_of_busy x fun hidle => by simp [(ready_iff s).mpr hidle] at h

/-- A held command still stands on the command port when the block is first ready. -/
theorem held_at_firstReady {N n : Nat} {s t : State} (hhold : HostHolds N s) (hn : n ≤ N) (hfirst : FirstReady n s t) :
    (s.inputAt n).cmdValid = true ∧ (s.inputAt n).cmdData = s.input.cmdData := by
  obtain ⟨hvalid, hkeep⟩ := hhold
  obtain ⟨_, _, hbefore⟩ := hfirst
  cases n with
  | zero => exact ⟨hvalid, rfl⟩
  | succ m => exact hkeep m hn fun j u hj hu => hbefore j u (Nat.lt_succ_of_le hj) hu

/-- Settles O41: the first ready cycle has the held command on its port and accepts it; the cycles before accept nothing. -/
theorem heldCommandIsAccepted : Obligations.HeldCommandIsAccepted := by
  intro s hpos hs hno hhold
  have hno' := noReset_of_le _ _ s (Nat.le_succ _) hno
  obtain ⟨n, t, hn, hfirst⟩ := firstReady_within_busyCycles hpos hs hno'
  obtain ⟨hvalid, hdata⟩ := held_at_firstReady hhold hn hfirst
  obtain ⟨hrun, hready, hbefore⟩ := hfirst
  have hinput : t.input = s.inputAt n := inputAt_of_run n (noReset_of_le n _ s hn hno') hrun 0
  refine ⟨n, t, hn, hrun, ?_, fun m u hm hu => acceptedCommand_of_not_ready _ (hbefore m u hm hu)⟩
  rw [hinput, acceptedCommand_eq_some_iff, hdata]
  exact ⟨hno n (Nat.lt_succ_of_le hn), hvalid, (ready_iff t).mp hready, rfl⟩

end Sys2Proof.Proofs
end
